-- ==== Sys2Proof/Word.lean ====
section
/-! DEFINITION. The words the block's registers, link and memory are made of. -/

namespace Sys2Proof

/-- One byte of a frame, of a serial memory page or of an image. -/
abbrev Byte := BitVec 8

/-- A point or a length of time in microseconds. Every clock of the block is read to 1 µs (R9). -/
abbrev Micros := Nat

end Sys2Proof
end

