-- ==== Sys2Proof/Syntax.lean ====
section
/-! DEFINITION. The commands of the block: one constructor per row of spec/opcode_table.json.
A command that is the expiry of one of the block's own timers carries no time: it happens when the
timer is due. Every other command carries `dt`, the microseconds that have passed since the command
before it (log entry 2). A request carries its tag and its body fields as raw bytes (R190). -/

namespace Sys2Proof

/-- MAIN or AUX: a drive and the pump it turns. -/
inductive Drive where
  | main | aux
  deriving DecidableEq, Repr, Inhabited

/-- PIN0 to PIN3. -/
inductive PulseIn where
  | engine | mainPump | auxPump | road
  deriving DecidableEq, Repr, Inhabited

/-- The three threshold watches of R99 to R103. -/
inductive Threshold where
  | overheat | overpressure | cavitation
  deriving DecidableEq, Repr, Inhabited

/-- How a write operation of the serial memory port ends (R179). -/
inductive WriteEnd where
  | equal | different | noAnswer
  deriving DecidableEq, Repr, Inhabited

/-- How a 32-byte slot read ends (R179). -/
inductive SlotEnd where
  | done (bytes : Vector Byte 32)
  | noAnswer
  deriving DecidableEq, Repr

/-- How a 64-byte page read ends (R179). -/
inductive PageEnd where
  | done (bytes : Vector Byte 64)
  | noAnswer
  deriving DecidableEq, Repr

/-- The commands, in the table's order. -/
inductive Instr where
  /-- A power-on reset ends; `rateHigh` is the level of the RATE strap. -/
  | powerOnReset (rateHigh : Bool)
  /-- RESET# is released; `rateHigh` is the level of the RATE strap. -/
  | pinReset (rateHigh : Bool)
  /-- The scan timer expires; the codes of AIN0 to AIN15 and the samples of DI0 to DI11 (bit n set
  means DIn reads asserted). -/
  | scan (codes : Vector (BitVec 12) 16) (samples : BitVec 12)
  | pulse (dt : Micros) (pin : PulseIn)
  | holdTimerExpiry (pin : PulseIn)
  | stillTimerExpiry
  | recoveryTimerExpiry
  | gaugeCycle
  | recloseTimerExpiry
  | lowPressureTimerExpiry
  | noRiseTimerExpiry
  | permissiveTimerExpiry (drive : Drive)
  | confirmTimerExpiry (drive : Drive)
  | retryOffExpiry (drive : Drive)
  | restoreTimerExpiry
  | idleTimerExpiry (drive : Drive)
  | positionTimerExpiry (drive : Drive)
  | overspeedTimerExpiry
  | slipTimerExpiry (drive : Drive)
  | stallTimerExpiry (drive : Drive)
  | persistTimerExpiry (pump : Drive) (watch : Threshold)
  | dryTimerExpiry (pump : Drive)
  | dryRunClearExpiry (pump : Drive)
  | overrideTimerExpiry (slot : Fin 16)
  | transferTimerExpiry
  | reclaimTimerExpiry
  | syncTimerExpiry
  | halfPageWriteEnd (dt : Micros) (outcome : WriteEnd)
  | slotReadEnd (dt : Micros) (outcome : SlotEnd)
  | pageReadEnd (dt : Micros) (outcome : PageEnd)
  | pageWriteEnd (dt : Micros) (outcome : WriteEnd)
  /-- A byte on HLRX; `framingError` says its stop bit was received low. -/
  | hlrxByte (dt : Micros) (byte : Byte) (framingError : Bool)
  | gapTimerExpiry
  | replySent (dt : Micros)
  | unknownKind (dt : Micros) (tag kind : Byte) (body : List Byte)
  | getStatus (dt : Micros) (tag : Byte)
  | getInputs (dt : Micros) (tag : Byte)
  | getTank (dt : Micros) (tag tank : Byte)
  | fetchNotices (dt : Micros) (tag : Byte)
  | setNoticeMask (dt : Micros) (tag : Byte) (mask : BitVec 16)
  | engageDrive (dt : Micros) (tag drive : Byte)
  | releaseDrive (dt : Micros) (tag drive : Byte)
  | reclaimAuthority (dt : Micros) (tag : Byte)
  | silenceAlarm (dt : Micros) (tag : Byte)
  | clearFillFault (dt : Micros) (tag : Byte)
  | confirmLockout (dt : Micros) (tag slot : Byte)
  | overrideLockout (dt : Micros) (tag slot : Byte) (seconds : BitVec 16)
  | cancelOverride (dt : Micros) (tag slot : Byte)
  | getLockouts (dt : Micros) (tag : Byte)
  | readRecords (dt : Micros) (tag : Byte) (sequence : BitVec 32) (count : Byte)
  | getAccumulators (dt : Micros) (tag : Byte)
  | markRecord (dt : Micros) (tag : Byte) (text : Vector Byte 16)
  | setTime (dt : Micros) (tag : Byte) (seconds : BitVec 32)
  | profileRead (dt : Micros) (tag source sect : Byte) (offset : BitVec 16) (count : Byte)
  | profileWrite (dt : Micros) (tag sect : Byte) (offset : BitVec 16) (bytes : List Byte)
  | profileApply (dt : Micros) (tag : Byte)
  | profileDiscard (dt : Micros) (tag : Byte)
  | softRestart (dt : Micros) (tag : Byte)
  deriving DecidableEq, Repr

end Sys2Proof
end

