-- ==== Sys2Proof/Decode.lean ====
section
/-! DEFINITION. The commands the table's bits spell. No row of spec/opcode_table.json gives bits: a command
is an event at a pin, a timer or the link, so no word spells one (log entry 5). -/

namespace Sys2Proof

/-- The command a table word spells: none. -/
def decodeTableWord (_nbits _w : Nat) : Option Instr := none

end Sys2Proof
end

