-- ==== Sys2Proof/Config.lean ====
section
/-! DEFINITION. What the model fixes for itself. The manual leaves no number to an implementation;
the one constant here bounds how long the publications of one command are followed (log entry 4). -/

namespace Sys2Proof.Config

/-- How many publications one command's chain may be followed for. -/
def settleBound : Nat := 4096

end Sys2Proof.Config
end

