-- ==== Sys2Proof/Machine/Params.lean ====
section
/-! DEFINITION. The fixed durations and the default parameters the manual states, in microseconds
where they are times. -/

namespace Sys2Proof.Machine

/-- A number of milliseconds. -/
def ms (n : Nat) : Micros := n * 1000

/-- A number of seconds. -/
def sec (n : Nat) : Micros := n * 1000000

/-- R1. -/
def scanPeriod : Micros := ms 10
/-- R18. -/
def gaugePeriod : Micros := ms 50
/-- R55. -/
def recloseTime : Micros := sec 5
/-- R57. -/
def lowPressureTime : Micros := sec 2
/-- R66. -/
def releaseIdle : Micros := sec 10
/-- R66. -/
def retryOffTime : Micros := ms 500
/-- R66, R82. -/
def positionLossTime : Micros := ms 300
/-- R66, R85. -/
def slipTime : Micros := sec 2
/-- R66, R86. -/
def stallTime : Micros := sec 2
/-- R66, R84. -/
def overspeedTime : Micros := sec 1
/-- R104. -/
def dryClearTime : Micros := sec 2
/-- R154. -/
def syncPeriod : Micros := sec 600
/-- R185. -/
def recoveryTime : Micros := ms 1500
/-- R165. -/
def gapTime : Micros := ms 20
/-- R12. -/
def defaultStillMs : Nat := 2000
/-- R9: the hold never falls below this. -/
def holdFloor : Micros := 20000
/-- R155. -/
def stagingCapacity : Nat := 16
/-- R173. -/
def noticeCapacity : Nat := 32
/-- R126. -/
def overrideCapacity : Nat := 4
/-- R153. -/
def ringSlots : Nat := 1920
/-- R153. -/
def lastSequence : Nat := 4294967294

end Sys2Proof.Machine
end

