-- ==== Sys2Proof/Machine/State.lean ====
section
/-! DEFINITION. The state of the part, block by block, and its value after a reset. -/

namespace Sys2Proof.Machine

/-! ## Reasons a step can stop -/

/-- Why the part stops. No command of the table stops it: the manual gives every one an effect, so no
reason is declared. -/
inductive Fault where
  deriving DecidableEq, Repr

/-- Why a command has no meaning here. -/
inductive Refusal where
  /-- Raised by an arm of `exec` whose command has no meaning yet. Safe: the run stops. -/
  | notModelled (mnemonic : String)
  deriving DecidableEq, Repr

/-! ## Families of like things -/

/-- One value for MAIN and one for AUX. -/
structure PerDrive (α : Type) where
  main : α
  aux : α
  deriving DecidableEq, Repr, Inhabited

def PerDrive.get {α : Type} (x : PerDrive α) : Drive → α
  | .main => x.main
  | .aux => x.aux

def PerDrive.set {α : Type} (x : PerDrive α) (d : Drive) (a : α) : PerDrive α :=
  match d with
  | .main => { x with main := a }
  | .aux => { x with aux := a }

/-- One value for each pulse input. -/
structure PerPulse (α : Type) where
  engine : α
  mainPump : α
  auxPump : α
  road : α
  deriving DecidableEq, Repr, Inhabited

def PerPulse.get {α : Type} (x : PerPulse α) : PulseIn → α
  | .engine => x.engine
  | .mainPump => x.mainPump
  | .auxPump => x.auxPump
  | .road => x.road

def PerPulse.set {α : Type} (x : PerPulse α) (p : PulseIn) (a : α) : PerPulse α :=
  match p with
  | .engine => { x with engine := a }
  | .mainPump => { x with mainPump := a }
  | .auxPump => { x with auxPump := a }
  | .road => { x with road := a }

/-- The tank slots. -/
inductive Tank where
  | t0 | t1 | t2 | t3
  deriving DecidableEq, Repr, Inhabited

/-- One value for each tank slot. -/
structure PerTank (α : Type) where
  t0 : α
  t1 : α
  t2 : α
  t3 : α
  deriving DecidableEq, Repr, Inhabited

def PerTank.get {α : Type} (x : PerTank α) : Tank → α
  | .t0 => x.t0
  | .t1 => x.t1
  | .t2 => x.t2
  | .t3 => x.t3

def PerTank.set {α : Type} (x : PerTank α) (t : Tank) (a : α) : PerTank α :=
  match t with
  | .t0 => { x with t0 := a }
  | .t1 => { x with t1 := a }
  | .t2 => { x with t2 := a }
  | .t3 => { x with t3 := a }

/-- A timer (5.6): stopped, running to the time it is due, or suspended with what is left of it. -/
inductive Timer where
  | stopped
  | running (due : Micros)
  | suspended (left : Micros)
  deriving DecidableEq, Repr, Inhabited

/-! ## The profile in use (R3, R20, R45, R52, R66, R97, R117, R136) -/

/-- A channel's role with its parameter (R3). -/
inductive Role where
  | probe (tank : Tank) (slot : Fin 4)
  | intakePressure (pump : Drive)
  | dischargePressure (pump : Drive)
  | casingTemp (pump : Drive)
  | pitch
  | roll
  | unused
  deriving DecidableEq, Repr, Inhabited

/-- A role entry (R3). -/
structure Entry where
  role : Role
  loCode : Nat
  hiCode : Nat
  loValue : Int
  hiValue : Int
  fullRange : Bool
  deriving DecidableEq, Repr, Inhabited

/-- A pulse input entry (R9, R11). -/
structure PulseEntry where
  holdMaxMs : Nat
  perRev : Nat
  perKm : Nat
  deriving DecidableEq, Repr, Inhabited

/-- A probe of a tank entry (R20). -/
structure ProbeEntry where
  x : Int
  y : Int
  z : Int
  rangeMm : Int
  deriving DecidableEq, Repr, Inhabited

/-- A strapping point (R20). -/
structure StrapPoint where
  height : Int
  volume : Int
  deriving DecidableEq, Repr, Inhabited

/-- A tank entry (R20, R45). `probes` holds the fitted slots, `strap` the points in use. -/
structure TankEntry where
  enabled : Bool
  probes : List ProbeEntry
  outletX : Int
  outletY : Int
  outletZ : Int
  minSubmergence : Int
  strap : List StrapPoint
  b1 : Int
  b2 : Int
  b3 : Int
  b4 : Int
  hysteresis : Int
  settleS : Nat
  spreadLimit : Int
  deriving DecidableEq, Repr, Inhabited

/-- T0's refill settings (R52). -/
structure RefillEntry where
  enabled : Bool
  pump : Drive
  minKPa : Int
  noRiseS : Nat
  riseMinLpm : Int
  deriving DecidableEq, Repr, Inhabited

/-- The DRIVES section (R66). `confirmAux` is in tenths of a second; a ratio is none where no profile
is in use. -/
structure DriveParams where
  shiftMaxRpm : Nat
  permWaitS : Nat
  confirmMainS : Nat
  confirmAuxTenths : Nat
  ratio : PerDrive (Option Nat)
  rollLimit : Nat
  slipTol : Nat
  deriving DecidableEq, Repr, Inhabited

/-- One pump's part of the PROTECTION section (R97). -/
structure PumpParams where
  tank : Tank
  warnTemp : Int
  tripTemp : Int
  maxKPa : Int
  cavKPa : Int
  dryS : Nat
  deriving DecidableEq, Repr, Inhabited

/-- The states of a drive (R65), in the table's order. -/
inductive DriveState where
  | disengaged | preparing | shifting | engaged | rolling | releasing | faulted
  deriving DecidableEq, Repr, Inhabited

/-- A band (R44). -/
inductive Band where
  | empty | reserve | low | normal | full | unknown
  deriving DecidableEq, Repr, Inhabited

/-- A gauge quality, best first (R19). -/
inductive Quality where
  | good | moving | degraded | unknown
  deriving DecidableEq, Repr, Inhabited

/-- The four watches of a pump (R96). -/
inductive Watch where
  | overheat | overpressure | cavitation | dryRun
  deriving DecidableEq, Repr, Inhabited

/-- The states of throttle authority (R135). -/
inductive Authority where
  | cab | toPanel | panel | toCab
  deriving DecidableEq, Repr, Inhabited

/-- DI0 to DI11, by name. -/
inductive Discrete where
  | parkBrake | transNeutral | splitRoadPos | splitPumpPos | auxPtoFeedback | panelAuthReq
  | cabAuthReq | pumpRollSelect | hydrantIntakeOpen | tankToPumpOpen | serviceKey | panelThrottleIdle
  deriving DecidableEq, Repr, Inhabited

/-- A term of a lockout entry, less its negate (R118). `inputLevel` names DIn by number. -/
inductive TermKind where
  | parkBrakeSet
  | transNeutral
  | roadStill
  | roadSpeedAbove (v : Nat)
  | engineAbove (rpm : Nat)
  | driveStateIn (drive : Drive) (states : List DriveState)
  | tankBandAtMost (tank : Tank) (band : Band)
  | tankQualityAtLeastBad (tank : Tank) (quality : Quality)
  | outletUncovered (tank : Tank)
  | tiltExtreme
  | watchTripped (pump : Drive) (watch : Watch)
  | authorityIs (state : Authority)
  | hydrantOpen
  | fillOpen
  | supplyNotNormal
  | inputLevel (n : Nat) (asserted : Bool)
  deriving DecidableEq, Repr, Inhabited

structure Term where
  kind : TermKind
  negate : Bool
  deriving DecidableEq, Repr, Inhabited

/-- What an entry acts on (R117). -/
inductive Target where
  | mainEngage | auxEngage | roadGear | auxRoll | panelAuthority | tankFill
  deriving DecidableEq, Repr, Inhabited

inductive Mode where
  | hard | advisory | confirm
  deriving DecidableEq, Repr, Inhabited

/-- An entry slot of the lockout table (R117). -/
structure LockoutEntry where
  inUse : Bool
  target : Target
  mode : Mode
  overridable : Bool
  terms : List Term
  deriving DecidableEq, Repr, Inhabited

/-- The AUTHORITY section, in seconds (R136). -/
structure AuthorityParams where
  toPanelS : Nat
  toCabS : Nat
  reclaimS : Nat
  deriving DecidableEq, Repr, Inhabited

/-- A profile in use: the parameters the Profile Unit publishes (R180). -/
structure Profile where
  name : List Byte
  version : Nat
  entries : List Entry
  pulses : PerPulse PulseEntry
  stillMs : Nat
  tanks : PerTank TankEntry
  refill : RefillEntry
  drives : DriveParams
  pumps : PerDrive PumpParams
  lockouts : List LockoutEntry
  authority : AuthorityParams
  deriving DecidableEq, Repr, Inhabited

/-! ## Input Scan Unit (R1 to R17) -/

/-- Health of a channel; `none` where the profile assigns no channel (R5, R19, R96). -/
inductive Health where
  | good | held | unknown | none
  deriving DecidableEq, Repr, Inhabited

/-- Whether a reseed waits for its first evaluation, and the health just before it (R6, R7). -/
inductive Reseed where
  | no
  | byReset
  | byProfile (before : Health)
  deriving DecidableEq, Repr, Inhabited

/-- What an analog channel keeps (R5). -/
structure Channel where
  health : Health
  lastGood : Option Int
  hold : Nat
  reseed : Reseed
  deriving DecidableEq, Repr, Inhabited

/-- What is published of an analog channel (R2). -/
structure PubChannel where
  role : Role
  code : Nat
  value : Option Int
  health : Health
  deriving DecidableEq, Repr, Inhabited

inductive PulseState where
  | stopped | creeping | running
  deriving DecidableEq, Repr, Inhabited

/-- A pulse input's record (R9). -/
structure PulseRec where
  state : PulseState
  last : Option Micros
  period : Option Micros
  hold : Timer
  deriving DecidableEq, Repr, Inhabited

/-- What is published of a pulse input (R2, R11). -/
structure PubPulse where
  state : PulseState
  period : Option Micros
  speed : Option Nat
  deriving DecidableEq, Repr, Inhabited

/-- A discrete input's debounced level and count (R14). -/
structure Debounce where
  level : Bool
  count : Nat
  deriving DecidableEq, Repr, Inhabited

/-- What is published of a discrete input (R15). -/
structure PubDiscrete where
  level : Bool
  changed : Bool
  deriving DecidableEq, Repr, Inhabited

/-- R16. -/
inductive Split where
  | road | pump | between | conflict
  deriving DecidableEq, Repr, Inhabited

/-- The published input set (R2); `supplyHealth` is AIN15's health (R8), which no reply carries. -/
structure Published where
  channels : List PubChannel
  supplyCode : Nat
  supplyMv : Nat
  supplyHealth : Health
  pulses : PerPulse PubPulse
  roadStill : Bool
  discretes : List PubDiscrete
  split : Split
  deriving DecidableEq, Repr, Inhabited

/-- The Input Scan Unit. `entries` are the role entries in use (R3); `stoppedAt` is when ROAD entered
STOPPED (R13); `scanned` says that a scan has been taken since the reset (R14, R89). -/
structure Isu where
  scanTimer : Timer
  entries : List Entry
  channels : List Channel
  pulses : PerPulse PulseRec
  stillTimer : Timer
  stoppedAt : Micros
  roadStill : Bool
  debounce : List Debounce
  scanned : Bool
  pub : Published
  deriving DecidableEq, Repr, Inhabited

/-! ## Tank Gauge Unit (R18 to R43) -/

inductive ProbeStatus where
  | wet | dry | saturated | excluded | absent
  deriving DecidableEq, Repr, Inhabited

/-- A truth that may be UNKNOWN. -/
inductive Tri where
  | yes | no | unknown
  deriving DecidableEq, Repr, Inhabited

/-- R38. -/
inductive TimeToEmpty where
  | unknown
  | notDraining
  | seconds (n : Nat)
  deriving DecidableEq, Repr, Inhabited

/-- A gauge record (R19). -/
structure GaugeRec where
  enabled : Bool
  h : Option Int
  f : Option Int
  v : Option Int
  residue : Option Int
  u : Option Int
  rate : Option Int
  timeToEmpty : TimeToEmpty
  quality : Quality
  overTop : Bool
  overRange : Bool
  uncovered : Bool
  probes : List ProbeStatus
  deriving DecidableEq, Repr, Inhabited

/-- The tilt record (R19). -/
structure Tilt where
  p : Int
  q : Int
  pHealth : Health
  qHealth : Health
  extreme : Tri
  deriving DecidableEq, Repr, Inhabited

/-- What a tank keeps from cycle to cycle (R30, R31, R36, R39). -/
structure TankKeep where
  f : Option Int
  v : Option Int
  u : Option Int
  history : List Int
  reinit : Bool
  deriving DecidableEq, Repr, Inhabited

structure Tgu where
  gaugeTimer : Timer
  stillCount : Nat
  keeps : PerTank TankKeep
  gauges : PerTank GaugeRec
  tilt : Tilt
  deriving DecidableEq, Repr, Inhabited

/-! ## Level Band Unit (R44 to R62) -/

inductive Candidate where
  | none | fall | rise
  deriving DecidableEq, Repr, Inhabited

inductive Direction where
  | falling | rising | initial | lost
  deriving DecidableEq, Repr, Inhabited

/-- A band record (R44). -/
structure BandRec where
  band : Band
  candidate : Candidate
  persist : Nat
  direction : Direction
  deriving DecidableEq, Repr, Inhabited

/-- R53. -/
inductive ValveState where
  | closed | opened | waiting | faulted
  deriving DecidableEq, Repr, Inhabited

/-- The causes of a refill valve change (R61). -/
inductive FillCause where
  | opened | full | gaugeUnknown | hydrantClosed | lockedOut | lowPressure | profile | gapEnded
  | noRise | cleared
  deriving DecidableEq, Repr, Inhabited

/-- The refill valve, its output DO6 and its timers (R53 to R58). -/
structure Valve where
  state : ValveState
  cause : Option FillCause
  do6 : Bool
  reclose : Timer
  lowPressure : Timer
  noRise : Timer
  deriving DecidableEq, Repr, Inhabited

structure Lbu where
  bands : PerTank BandRec
  valve : Valve
  deriving DecidableEq, Repr, Inhabited

/-! ## Drive Engagement Unit (R63 to R94) -/

inductive FaultKind where
  | noConfirm | noIdle | positionLost | motion | slip | positionUnknown | adoptedUnpowered
  deriving DecidableEq, Repr, Inhabited

/-- The causes of a drive's transitions (R91). -/
inductive DriveCause where
  | requested | shiftStarted | confirmed | vehicleMoving | vehicleStill | releasePending
  | releaseStarted | released | cancelled | permissiveTimeout | lockedOut | adopted
  | fault (kind : FaultKind)
  deriving DecidableEq, Repr, Inhabited

inductive Phase where
  | driving | off | restore | none
  deriving DecidableEq, Repr, Inhabited

inductive PendingRelease where
  | none | idleWait | slotWait
  deriving DecidableEq, Repr, Inhabited

inductive SeqPurpose where
  | permissive | confirm | retryOff | idle | restore
  deriving DecidableEq, Repr, Inhabited

/-- A drive record (R64). `accepted` is the time of the acceptance the ENGAGE record counts from (R92);
`selectPosted` says that ROLL_WITHOUT_SELECT is posted (R84). -/
structure DriveRec where
  state : DriveState
  cause : Option DriveCause
  fault : Option FaultKind
  retryUsed : Bool
  phase : Phase
  pendingRelease : PendingRelease
  seqPurpose : Option SeqPurpose
  seq : Timer
  joined : Option Micros
  position : Timer
  slip : Timer
  stall : Timer
  overspeed : Timer
  overspeedPosted : Bool
  selectPosted : Bool
  releaseCut : Bool
  motionArmed : Bool
  accepted : Micros
  deriving DecidableEq, Repr, Inhabited

/-- The Drive Engagement Unit with the shift slot (R67) and its outputs DO0 to DO2 (R69). -/
structure Deu where
  drives : PerDrive DriveRec
  holder : Option Drive
  waiting : List Drive
  adopted : Bool
  do0 : Bool
  do1 : Bool
  do2 : Bool
  deriving DecidableEq, Repr, Inhabited

/-! ## Pump Protection Unit (R95 to R112) -/

inductive WatchState where
  | clear | pending | tripped | recovering
  deriving DecidableEq, Repr, Inhabited

/-- R98. -/
inductive Source where
  | tank | hydrant | both | none
  deriving DecidableEq, Repr, Inhabited

/-- A watch record (R96). The purpose of the persist timer is TRIP in PENDING and CLEAR in RECOVERING. -/
structure WatchRec where
  state : WatchState
  health : Health
  persist : Timer
  peak : Option Int
  dry : Timer
  dryElapsed : Bool
  cutPosted : Bool
  deriving DecidableEq, Repr, Inhabited

structure PumpWatches where
  overheat : WatchRec
  overpressure : WatchRec
  cavitation : WatchRec
  dryRun : WatchRec
  deriving DecidableEq, Repr, Inhabited

def PumpWatches.get (x : PumpWatches) : Watch → WatchRec
  | .overheat => x.overheat
  | .overpressure => x.overpressure
  | .cavitation => x.cavitation
  | .dryRun => x.dryRun

def PumpWatches.set (x : PumpWatches) (w : Watch) (r : WatchRec) : PumpWatches :=
  match w with
  | .overheat => { x with overheat := r }
  | .overpressure => { x with overpressure := r }
  | .cavitation => { x with cavitation := r }
  | .dryRun => { x with dryRun := r }

/-- The alarm causes (R107). -/
inductive AlarmCause where
  | watch (pump : Drive) (watch : Watch)
  | overheatWarn (pump : Drive)
  | tankReserve (tank : Tank)
  | driveFault (drive : Drive)
  | rollOverspeed
  | rollWithoutSelect
  | fillFault
  deriving DecidableEq, Repr, Inhabited

/-- A member of the alarm cause set (R107). -/
structure Alarm where
  cause : AlarmCause
  silenced : Bool
  deriving DecidableEq, Repr, Inhabited

/-- The Pump Protection Unit, with DO8 and DO9. `started` says that the pump's watches run (R99). -/
structure Ppu where
  watches : PerDrive PumpWatches
  started : PerDrive Bool
  sources : PerDrive Source
  alarms : List Alarm
  do8 : Bool
  do9 : Bool
  deriving DecidableEq, Repr, Inhabited

/-! ## Lockout Unit (R113 to R133) -/

/-- An entry record, less its override (R120). -/
structure LockoutRec where
  active : Bool
  effective : Bool
  confirmed : Bool
  deriving DecidableEq, Repr, Inhabited

/-- A member of the override list (R126, R127). -/
structure Override where
  slot : Nat
  timer : Timer
  deriving DecidableEq, Repr, Inhabited

/-- The Lockout Unit, with DO3 and DO7. `table` is the lockout table in use (R117). -/
structure Lku where
  mainGear : Bool
  auxGear : Bool
  startHold : Bool
  table : List LockoutEntry
  records : List LockoutRec
  overrides : List Override
  do3 : Bool
  do7 : Bool
  deriving DecidableEq, Repr, Inhabited

/-! ## Throttle Authority Unit (R134 to R146) -/

/-- The members of the cut demand set (R137). -/
inductive Cut where
  | driveRelease (drive : Drive)
  | rollOverspeed
  | watch (pump : Drive) (watch : Watch)
  deriving DecidableEq, Repr, Inhabited

/-- The causes of R145, in the table's order. -/
inductive AuthCause where
  | requested | granted | notIdle | lockedOut | driveLeft | driveRelease | hostReclaim | cabRequest
  | reclaimed | reclaimForced | returned | forced | denied | reclaimHeld | cutPosted | cutWithdrawn
  | resumeHoldOn | resumeHoldOff
  deriving DecidableEq, Repr, Inhabited

inductive TransferPurpose where
  | toPanel | toCab
  deriving DecidableEq, Repr, Inhabited

/-- The authority record (R135) with DO4 and DO5. -/
structure Tau where
  state : Authority
  cause : Option AuthCause
  cuts : List Cut
  resumeHold : Bool
  reclaimPending : Bool
  transferPurpose : Option TransferPurpose
  transfer : Timer
  reclaim : Timer
  do4 : Bool
  do5 : Bool
  deriving DecidableEq, Repr, Inhabited

/-! ## Duty Recorder (R147 to R164) -/

/-- The accumulators (R148). -/
structure Accumulators where
  mainRunS : Nat
  auxRunS : Nat
  rollM : Nat
  waterL : Nat
  engagementsMain : Nat
  engagementsAux : Nat
  deriving DecidableEq, Repr, Inhabited

inductive SyncCause where
  | cadence | timer | droop | restart
  deriving DecidableEq, Repr, Inhabited

/-- Why a watch changed (R106). -/
inductive WatchCause where
  | tripped | cut | cleared | driveStopped | profile
  deriving DecidableEq, Repr, Inhabited

/-- Why an override ended (R127). -/
inductive EndReason where
  | expired | cancelled | keyRemoved | profile
  deriving DecidableEq, Repr, Inhabited

inductive SupplyState where
  | droop | recovering | normal
  deriving DecidableEq, Repr, Inhabited

/-- What a record carries (8.3.1). A SYNC is filled when its write begins; `restartMark` on it says that
the Link Unit waits for its write to end (R156). -/
inductive RecordBody where
  | sync (cause : SyncCause) (restartMark : Bool)
  | engage (drive : Drive) (rpm : Option Nat) (elapsed : Micros)
  | release (drive : Drive) (fromFaulted : Bool)
  | driveFault (drive : Drive) (kind : FaultKind) (before : DriveState) (position : Nat)
  | protection (pump : Drive) (watch : Watch) (trip : Bool) (value : Option Int) (cause : WatchCause)
    (condition : Option Nat)
  | overrideStart (slot : Nat) (target : Target) (seconds : Nat) (active restart : Bool)
  | overrideEnd (slot : Nat) (target : Target) (reason : EndReason) (active : Bool)
  | band (tank : Tank) (before after : Band) (direction : Direction) (u : Option Int) (quality : Quality)
  | supply (before after : SupplyState) (mv : Nat)
  | profileApplied (version : Nat) (name : List Byte)
  | hostMark (text : List Byte)
  | lost (count : Nat)
  deriving DecidableEq, Repr, Inhabited

/-- A staged record (R152). -/
structure Record where
  time : Nat
  unsynced : Bool
  body : RecordBody
  deriving DecidableEq, Repr, Inhabited

inductive RecorderState where
  | recovering | running | failed
  deriving DecidableEq, Repr, Inhabited

/-- A ring write in progress (R157). `fromQueue` is no for a cadence SYNC; `last` is the outcome of the
attempt before this one, if there was one. -/
structure RingWrite where
  sequence : Nat
  bytes : List Byte
  fromQueue : Bool
  restartMark : Bool
  last : Option WriteEnd
  deriving DecidableEq, Repr, Inhabited

/-- What the recovery scan has found so far (R158). -/
structure RingScan where
  slot : Nat
  again : Bool
  newest : Option (Nat × Nat)
  lowest : Option Nat
  sync : Option (Nat × Accumulators)
  deriving DecidableEq, Repr, Inhabited

/-- A READ RECORDS in service (R160). `issued` says that its reads have begun; `cursor` is the sequence
read next and `last` the last one. -/
structure RingRead where
  sequence : Nat
  count : Nat
  issued : Bool
  cursor : Nat
  last : Nat
  again : Bool
  entries : List (Option (List Byte))
  deriving DecidableEq, Repr, Inhabited

/-- The time base (R152, R163): it read `base` seconds at the time `setAt`. -/
structure TimeBase where
  base : Nat
  setAt : Micros
  synced : Bool
  deriving DecidableEq, Repr, Inhabited

structure Drc where
  state : RecorderState
  acc : Accumulators
  restored : Bool
  changed : Bool
  runRemainder : PerDrive Nat
  distRemainder : Nat
  lowWater : Option Int
  t0Known : Bool
  timeBase : TimeBase
  syncTimer : Timer
  queue : List Record
  lostCount : Nat
  head : Option Nat
  nextSeq : Option Nat
  oldest : Option Nat
  write : Option RingWrite
  scan : RingScan
  read : Option RingRead
  deriving DecidableEq, Repr, Inhabited

/-! ## Link Unit (R165 to R177) -/

/-- The notice kinds, in the order of R172. -/
inductive NoticeKind where
  | driveState | bandChange | tankQuality | protection | lockout | authority | fill | alarm
  | inputFault | supply | profile | recorder | noticesLost
  deriving DecidableEq, Repr, Inhabited

/-- A notice (R172, R191). -/
structure Notice where
  kind : NoticeKind
  time : Nat
  subject : Byte
  values : List Byte
  deriving DecidableEq, Repr, Inhabited

/-- A request frame, less its sync, length and CRC (R189). -/
structure Frame where
  kind : Byte
  tag : Byte
  body : List Byte
  deriving DecidableEq, Repr, Inhabited

/-- The request in service; `reply` is the reply frame on HLTX once it is formed (R167, R168). -/
structure Service where
  kind : Byte
  tag : Byte
  reply : Option (List Byte)
  deriving DecidableEq, Repr, Inhabited

/-- An accepted SOFT RESTART that has not taken place (R171). -/
structure RestartWait where
  replySent : Bool
  recorderReady : Bool
  deriving DecidableEq, Repr, Inhabited

/-- The link fault counters (R166). -/
structure LinkFaults where
  gap : Nat
  crc : Nat
  length : Nat
  byteError : Nat
  overrun : Nat
  deriving DecidableEq, Repr, Inhabited

/-- The Link Unit. `rx` is none in HUNTING and holds the bytes after the sync byte in ASSEMBLING;
`attnLow` is the ATTN# output. -/
structure Lnk where
  rx : Option (List Byte)
  gapTimer : Timer
  service : Option Service
  waiting : Option Frame
  restart : Option RestartWait
  notices : List Notice
  attnLow : Bool
  mask : BitVec 16
  lost : Nat
  faults : LinkFaults
  baudHigh : Bool
  deriving DecidableEq, Repr, Inhabited

/-! ## Profile Unit (R178 to R186) -/

/-- An image of the profile area: the bytes that differ from 0xFF, by rising address. -/
abbrev Memory := List Host.Cell

inductive Conf where
  | loading | configured | unconfigured | applying
  deriving DecidableEq, Repr, Inhabited

/-- An operation of the serial memory port (R179). -/
inductive PortOp where
  | pageWrite (page : Nat) (bytes : List Byte)
  | pageRead (page : Nat)
  | slotWrite (slot : Nat) (bytes : List Byte)
  | slotRead (slot : Nat)
  deriving DecidableEq, Repr, Inhabited

inductive Client where
  | pfu | drc
  deriving DecidableEq, Repr, Inhabited

/-- The serial memory port and its arbiter (R179). -/
structure Port where
  busy : Option (Client × PortOp)
  pfuWaits : Option PortOp
  drcWaits : Option PortOp
  last : Option Client
  deriving DecidableEq, Repr, Inhabited

/-- What the Profile Unit is doing with the port; `again` marks a second attempt. A read keeps the first
address and the count asked for, the page in progress and the bytes read so far. -/
inductive PfuTask where
  | idle
  | load (page : Nat) (again : Bool)
  | apply (page : Nat) (again : Bool)
  | read (address count page : Nat) (again : Bool) (bytes : List Byte)
  deriving DecidableEq, Repr, Inhabited

structure Pfu where
  conf : Conf
  inUse : Option Profile
  active : Memory
  edit : Memory
  task : PfuTask
  supply : SupplyState
  lowCount : Nat
  highCount : Nat
  recovery : Timer
  deriving DecidableEq, Repr, Inhabited

/-! ## Publications on their way between blocks -/

inductive Block where
  | isu | tgu | lbu | deu | ppu | lku | tau | drc | lnk | pfu
  deriving DecidableEq, Repr, Inhabited

/-- A post or a withdrawal handed to the alarm cause set or the cut demand set. -/
inductive SetOp (α : Type) where
  | post (a : α)
  | withdraw (a : α)
  deriving DecidableEq, Repr, Inhabited

/-- What one block hands another. -/
inductive Event where
  | inputs
  | gauges
  | levels (bandChanged valveChanged valveLeftOpen : Bool)
  | drives
  | watches
  | authority
  | lockouts (changed : List Target)
  | conf (before after : Conf)
  | supply (before after : SupplyState)
  | alarms (ops : List (SetOp AlarmCause))
  | cuts (ops : List (SetOp Cut))
  | records (bodies : List RecordBody)
  | started (drive : Drive)
  | restartAsked
  | restartReady
  | reply (body : List Byte)
  deriving DecidableEq, Repr, Inhabited

/-- The whole state. `now` counts from the end of the last reset. `schedule` and `agenda` are the model's
own: the order in which blocks that have publications waiting take them (log entry 3), and the
publications waiting inside a command. `pending` is the queue of commands. -/
structure State where
  now : Micros
  ratePinHigh : Bool
  isu : Isu
  tgu : Tgu
  lbu : Lbu
  deu : Deu
  ppu : Ppu
  lku : Lku
  tau : Tau
  drc : Drc
  lnk : Lnk
  pfu : Pfu
  port : Port
  schedule : List Block
  agenda : List (Block × Event)
  pending : List Instr
  deriving DecidableEq, Repr, Inhabited

/-! ## The state after reset -/

/-- The entry of a channel while no profile is in use (R3). R3 gives its role and full_range; that its codes and values
are 0 is the model's choice (log entry 52). -/
def Entry.unusedEntry : Entry := ⟨.unused, 0, 0, 0, 0, false⟩

/-- R17. That the debounce counts stand at 0 and the published codes at 0 is the model's choice (log entry 10). -/
def Isu.reset : Isu where
  scanTimer := .running scanPeriod
  entries := List.replicate 15 .unusedEntry
  channels := List.replicate 15 ⟨.unknown, none, 51, .byReset⟩
  pulses :=
    let stopped : PulseRec := ⟨.stopped, none, none, .stopped⟩
    ⟨stopped, stopped, stopped, stopped⟩
  stillTimer := .running (ms defaultStillMs)
  stoppedAt := 0
  roadStill := false
  debounce := List.replicate 12 ⟨false, 0⟩
  scanned := false
  pub :=
    let stopped : PubPulse := ⟨.stopped, none, some 0⟩
    { channels := List.replicate 15 ⟨.unused, 0, none, .unknown⟩
      supplyCode := 0
      supplyMv := 0
      supplyHealth := .unknown
      pulses := ⟨stopped, stopped, stopped, stopped⟩
      roadStill := false
      discretes := List.replicate 12 ⟨false, false⟩
      split := .between }

/-- The record of a tank that is not computed (R41). -/
def GaugeRec.notComputed : GaugeRec where
  enabled := false
  h := none
  f := none
  v := none
  residue := none
  u := none
  rate := none
  timeToEmpty := .unknown
  quality := .unknown
  overTop := false
  overRange := false
  uncovered := true
  probes := List.replicate 4 .absent

/-- A tank with nothing gauged yet (R43). -/
def TankKeep.fresh : TankKeep := ⟨none, none, none, [], true⟩

/-- R43. -/
def Tgu.reset : Tgu where
  gaugeTimer := .running gaugePeriod
  stillCount := 0
  keeps := ⟨.fresh, .fresh, .fresh, .fresh⟩
  gauges := ⟨.notComputed, .notComputed, .notComputed, .notComputed⟩
  tilt := ⟨0, 0, .none, .none, .no⟩

/-- A band that cannot be formed (R46, R62). -/
def BandRec.lost : BandRec := ⟨.unknown, .none, 0, .lost⟩

/-- R62. -/
def Lbu.reset : Lbu where
  bands := ⟨.lost, .lost, .lost, .lost⟩
  valve := ⟨.closed, none, false, .stopped, .stopped, .stopped⟩

/-- R94. Motion armed is yes in both records, though R64 gives the field to MAIN: that AUX keeps it is the model's
choice (log entry 47). -/
def DriveRec.reset : DriveRec where
  state := .disengaged
  cause := none
  fault := none
  retryUsed := false
  phase := .none
  pendingRelease := .none
  seqPurpose := none
  seq := .stopped
  joined := none
  position := .stopped
  slip := .stopped
  stall := .stopped
  overspeed := .stopped
  overspeedPosted := false
  selectPosted := false
  releaseCut := false
  motionArmed := true
  accepted := 0

/-- R94. -/
def Deu.reset : Deu := ⟨⟨.reset, .reset⟩, none, [], false, false, false, false⟩

/-- A CLEAR watch (R112). -/
def WatchRec.reset : WatchRec := ⟨.clear, .none, .stopped, none, .stopped, false, false⟩

/-- R112. -/
def Ppu.reset : Ppu where
  watches :=
    let clear : PumpWatches := ⟨.reset, .reset, .reset, .reset⟩
    ⟨clear, clear⟩
  started := ⟨false, false⟩
  sources := ⟨.none, .none⟩
  alarms := []
  do8 := false
  do9 := false

/-- An inactive entry record. -/
def LockoutRec.inactive : LockoutRec := ⟨false, false, false⟩

/-- A slot that is not in use. -/
def LockoutEntry.notInUse : LockoutEntry := ⟨false, .mainEngage, .hard, false, []⟩

/-- R133. MAIN_GEAR is formed from the position the Input Scan Unit publishes after reset, BETWEEN. -/
def Lku.reset : Lku where
  mainGear := true
  auxGear := false
  startHold := true
  table := List.replicate 16 .notInUse
  records := List.replicate 16 .inactive
  overrides := []
  do3 := true
  do7 := false

/-- R146. -/
def Tau.reset : Tau :=
  ⟨.cab, none, [], false, false, none, .stopped, .stopped, false, false⟩

/-- R164. -/
def Drc.reset : Drc where
  state := .recovering
  acc := ⟨0, 0, 0, 0, 0, 0⟩
  restored := false
  changed := false
  runRemainder := ⟨0, 0⟩
  distRemainder := 0
  lowWater := none
  t0Known := false
  timeBase := ⟨0, 0, false⟩
  syncTimer := .running syncPeriod
  queue := []
  lostCount := 0
  head := none
  nextSeq := none
  oldest := none
  write := none
  scan := ⟨0, false, none, none, none⟩
  read := none

/-- R177, with the rate the strap selects and the fault counters given. -/
def Lnk.reset (baudHigh : Bool) (faults : LinkFaults) : Lnk where
  rx := none
  gapTimer := .stopped
  service := none
  waiting := none
  restart := none
  notices := []
  attnLow := false
  mask := 0
  lost := 0
  faults := faults
  baudHigh := baudHigh

/-- R186. The load of R181 stands at page 0. -/
def Pfu.reset : Pfu where
  conf := .loading
  inUse := none
  active := []
  edit := []
  task := .load 0 false
  supply := .droop
  lowCount := 0
  highCount := 0
  recovery := .stopped

/-- R186: idle, none last served. The first page read and the first slot read are asked for (10.8). -/
def Port.reset : Port := ⟨none, some (.pageRead 0), some (.slotRead 0), none⟩

/-- Every block's state after a reset, given what a reset does not set: the RATE strap, the link fault
counters (R166), the schedule and the queue of commands. -/
def State.afterReset (rateHigh : Bool) (faults : LinkFaults) (schedule : List Block)
    (pending : List Instr) : State where
  now := 0
  ratePinHigh := rateHigh
  isu := .reset
  tgu := .reset
  lbu := .reset
  deu := .reset
  ppu := .reset
  lku := .reset
  tau := .reset
  drc := .reset
  lnk := .reset rateHigh faults
  pfu := .reset
  port := .reset
  schedule := schedule
  agenda := []
  pending := pending

/-- The part right after a power-on reset with RATE low. -/
def State.reset : State := State.afterReset false ⟨0, 0, 0, 0, 0⟩ [] []

end Sys2Proof.Machine
end

