-- ==== Sys2Proof/Machine/Operands.lean ====
section
/-! DEFINITION. Numbers and bytes: the two roundings (5.2), fields and their absence (R188), the CRC-16
(R187), timers (5.6), and reading and writing an image of the profile area. -/

namespace Sys2Proof.Machine

/-! ## Rounding (5.2) -/

/-- Nearest rounding of `a / b` for `b` above 0, halves away from zero. -/
def divNearest (a b : Int) : Int :=
  if 0 ≤ a then (2 * a + b) / (2 * b) else -((2 * (-a) + b) / (2 * b))

/-- Truncation of `a / b`. -/
def divTrunc (a b : Int) : Int := a.tdiv b

/-- `x` brought into `lo` to `hi`. -/
def clamp (lo hi x : Int) : Int := max lo (min hi x)

/-- `n`, stopped at `top`. -/
def saturate (top n : Nat) : Nat := min top n

/-! ## Timers (5.6) -/

/-- A timer started at `now`. -/
def Timer.started (now duration : Micros) : Timer := .running (now + duration)

/-- The next period of a free-running timer whose expiry is taken. -/
def Timer.again (period : Micros) : Timer → Timer
  | .running due => .running (due + period)
  | t => t

def Timer.isRunning : Timer → Bool
  | .running _ => true
  | _ => false

/-- A running timer set aside with what is left of it; another is left as it is. -/
def Timer.suspend (now : Micros) : Timer → Timer
  | .running due => .suspended (due - now)
  | t => t

/-- A suspended timer set going again; another is left as it is. -/
def Timer.resume (now : Micros) : Timer → Timer
  | .suspended left => .running (now + left)
  | t => t

/-- Started with `duration` unless it runs already. -/
def Timer.startIfStopped (now duration : Micros) (t : Timer) : Timer :=
  if t.isRunning then t else .started now duration

/-- Whole seconds left, truncated. -/
def Timer.secondsLeft (now : Micros) : Timer → Nat
  | .stopped => 0
  | .running due => (due - now) / 1000000
  | .suspended left => left / 1000000

/-! ## Fields (R188) -/

def byte (n : Nat) : Byte := BitVec.ofNat 8 n

/-- A two-byte field, most significant byte first. -/
def be16 (n : Nat) : List Byte := [byte (n / 256), byte n]

/-- A four-byte field, most significant byte first. -/
def be32 (n : Nat) : List Byte := [byte (n / 16777216), byte (n / 65536), byte (n / 256), byte n]

/-- A signed two-byte field in two's complement. -/
def be16s (x : Int) : List Byte := be16 (BitVec.ofInt 16 x).toNat

/-- A signed four-byte field in two's complement. -/
def be32s (x : Int) : List Byte := be32 (BitVec.ofInt 32 x).toNat

/-- An unsigned two-byte field that may be absent: all ones. -/
def opt16 : Option Nat → List Byte
  | some n => be16 n
  | none => be16 0xFFFF

/-- An unsigned two-byte field of a quantity that is never negative. -/
def opt16u : Option Int → List Byte
  | some x => be16 x.toNat
  | none => be16 0xFFFF

/-- A signed two-byte field that may be absent: the lowest value. -/
def opt16s : Option Int → List Byte
  | some x => be16s x
  | none => be16 0x8000

/-- A signed four-byte field that may be absent: the lowest value. -/
def opt32s : Option Int → List Byte
  | some x => be32s x
  | none => be32 0x80000000

/-- An unsigned four-byte field that may be absent: all ones. -/
def opt32 : Option Nat → List Byte
  | some n => be32 n
  | none => be32 0xFFFFFFFF

/-- A one-byte code that may be absent: all ones. R188 says so of absent numbers; that an absent code is sent in the
same way is the model's choice (log entry 61). -/
def opt8 : Option Nat → Byte
  | some n => byte n
  | none => 0xFF#8

/-- A flag as a byte of its own. -/
def flag (b : Bool) : Byte := if b then 1#8 else 0#8

/-- Bit `n` of a byte or a mask, when `b`. -/
def bit (n : Nat) (b : Bool) : Nat := if b then 2 ^ n else 0

/-- A mask with the bits of the numbers listed. -/
def maskOf (codes : List Nat) : Nat := codes.foldl (fun m c => m ||| 2 ^ c) 0

/-- `bytes` brought to `n` bytes with 0x00 behind it. -/
def padTo (n : Nat) (bytes : List Byte) : List Byte :=
  (bytes ++ List.replicate (n - bytes.length) 0#8).take n

/-! Reading fields out of bytes. -/

def rd8 (bs : List Byte) (off : Nat) : Nat := (bs.getD off 0#8).toNat

def rd16 (bs : List Byte) (off : Nat) : Nat := rd8 bs off * 256 + rd8 bs (off + 1)

def rd16s (bs : List Byte) (off : Nat) : Int := (BitVec.ofNat 16 (rd16 bs off)).toInt

def rd32 (bs : List Byte) (off : Nat) : Nat := rd16 bs off * 65536 + rd16 bs (off + 2)

/-! ## CRC-16 (R187) -/

/-- One shift of the register. -/
def crcShift (r : BitVec 16) : BitVec 16 :=
  if r.msb then (r <<< 1) ^^^ 0x1021#16 else r <<< 1

/-- One covered byte. -/
def crcByte (r : BitVec 16) (b : Byte) : BitVec 16 :=
  let r := r ^^^ (b.setWidth 16 <<< 8)
  crcShift (crcShift (crcShift (crcShift (crcShift (crcShift (crcShift (crcShift r)))))))

def crc16 (bytes : List Byte) : BitVec 16 := bytes.foldl crcByte 0xFFFF#16

/-- The CRC as it is sent and stored. -/
def crcBytes (bytes : List Byte) : List Byte := be16 (crc16 bytes).toNat

/-! ## Images of the profile area -/

/-- What a byte that nothing has written reads as: erased memory, and the fill of R181. -/
def Memory.erased : Byte := 0xFF#8

/-- The byte at an address. -/
def Memory.read : Memory → Nat → Byte
  | [], _ => Memory.erased
  | (k, b) :: rest, a => if k = a then b else Memory.read rest a

/-- One byte written; the form of `Memory.wf` is kept. -/
def Memory.write : Memory → Nat → Byte → Memory
  | [], a, v => if v = Memory.erased then [] else [(a, v)]
  | (k, b) :: rest, a, v =>
    if a < k then (if v = Memory.erased then (k, b) :: rest else (a, v) :: (k, b) :: rest)
    else if a = k then (if v = Memory.erased then rest else (a, v) :: rest)
    else (k, b) :: Memory.write rest a v

/-- Bytes written one after another from an address up. -/
def Memory.writeList : Memory → Nat → List Byte → Memory
  | m, _, [] => m
  | m, a, v :: vs => Memory.writeList (m.write a v) (a + 1) vs

/-- The form of an image: addresses strictly rising from `lo` up, and no byte that reads as erased. -/
def Memory.wfFrom (lo : Nat) : Memory → Bool
  | [] => true
  | (k, b) :: rest => decide (lo ≤ k) && decide (b ≠ Memory.erased) && Memory.wfFrom (k + 1) rest

def Memory.wf (m : Memory) : Bool := Memory.wfFrom 0 m

/-- `n` bytes from an address up. -/
def Memory.slice (m : Memory) (a n : Nat) : List Byte :=
  (List.range n).map fun i => m.read (a + i)

end Sys2Proof.Machine
end

