-- ==== Sys2Proof/Machine/Flags.lean ====
section
/-! DEFINITION. Codes: the position of each enumerated value in the manual's list (R188), and the codes
the layout chapter tabulates. -/

namespace Sys2Proof.Machine

def driveCode : Drive → Nat
  | .main => 0
  | .aux => 1

def tankCode : Tank → Nat
  | .t0 => 0
  | .t1 => 1
  | .t2 => 2
  | .t3 => 3

def watchCode : Watch → Nat
  | .overheat => 0
  | .overpressure => 1
  | .cavitation => 2
  | .dryRun => 3

/-- R3. -/
def roleCode : Role → Nat
  | .probe _ _ => 0
  | .intakePressure _ => 1
  | .dischargePressure _ => 2
  | .casingTemp _ => 3
  | .pitch => 4
  | .roll => 5
  | .unused => 6

/-- The parameter of a role (R193); absent where it has none. -/
def roleParam : Role → Option Nat
  | .probe t s => some (tankCode t * 4 + s.val)
  | .intakePressure p => some (driveCode p)
  | .dischargePressure p => some (driveCode p)
  | .casingTemp p => some (driveCode p)
  | .pitch => none
  | .roll => none
  | .unused => none

def healthCode : Health → Nat
  | .good => 0
  | .held => 1
  | .unknown => 2
  | .none => 3

def pulseStateCode : PulseState → Nat
  | .stopped => 0
  | .creeping => 1
  | .running => 2

def splitCode : Split → Nat
  | .road => 0
  | .pump => 1
  | .between => 2
  | .conflict => 3

def qualityCode : Quality → Nat
  | .good => 0
  | .moving => 1
  | .degraded => 2
  | .unknown => 3

def probeStatusCode : ProbeStatus → Nat
  | .wet => 0
  | .dry => 1
  | .saturated => 2
  | .excluded => 3
  | .absent => 4

/-- TILT_EXTREME: true, false, UNKNOWN (R19; log entry 14). -/
def triCode : Tri → Nat
  | .yes => 0
  | .no => 1
  | .unknown => 2

def bandCode : Band → Nat
  | .empty => 0
  | .reserve => 1
  | .low => 2
  | .normal => 3
  | .full => 4
  | .unknown => 5

def directionCode : Direction → Nat
  | .falling => 0
  | .rising => 1
  | .initial => 2
  | .lost => 3

def valveCode : ValveState → Nat
  | .closed => 0
  | .opened => 1
  | .waiting => 2
  | .faulted => 3

/-- R61, in the order in which its table first names each. -/
def fillCauseCode : FillCause → Nat
  | .opened => 0
  | .full => 1
  | .gaugeUnknown => 2
  | .hydrantClosed => 3
  | .lockedOut => 4
  | .lowPressure => 5
  | .profile => 6
  | .gapEnded => 7
  | .noRise => 8
  | .cleared => 9

def driveStateCode : DriveState → Nat
  | .disengaged => 0
  | .preparing => 1
  | .shifting => 2
  | .engaged => 3
  | .rolling => 4
  | .releasing => 5
  | .faulted => 6

/-- R64. -/
def faultCode : FaultKind → Nat
  | .noConfirm => 0
  | .noIdle => 1
  | .positionLost => 2
  | .motion => 3
  | .slip => 4
  | .positionUnknown => 5
  | .adoptedUnpowered => 6

/-- R91, in the table's order; a fault kind follows the twelve (log entry 14). -/
def driveCauseCode : DriveCause → Nat
  | .requested => 0
  | .shiftStarted => 1
  | .confirmed => 2
  | .vehicleMoving => 3
  | .vehicleStill => 4
  | .releasePending => 5
  | .releaseStarted => 6
  | .released => 7
  | .cancelled => 8
  | .permissiveTimeout => 9
  | .lockedOut => 10
  | .adopted => 11
  | .fault k => 12 + faultCode k

/-- R64: DRIVING, OFF, RESTORE, NONE. -/
def phaseCode : Phase → Nat
  | .driving => 0
  | .off => 1
  | .restore => 2
  | .none => 3

def pendingReleaseCode : PendingRelease → Nat
  | .none => 0
  | .idleWait => 1
  | .slotWait => 2

/-- R67: none, MAIN, AUX. -/
def holderCode : Option Drive → Nat
  | none => 0
  | some .main => 1
  | some .aux => 2

def watchStateCode : WatchState → Nat
  | .clear => 0
  | .pending => 1
  | .tripped => 2
  | .recovering => 3

def sourceCode : Source → Nat
  | .tank => 0
  | .hydrant => 1
  | .both => 2
  | .none => 3

/-- R106, in the table's order. -/
def watchCauseCode : WatchCause → Nat
  | .tripped => 0
  | .cut => 1
  | .cleared => 2
  | .driveStopped => 3
  | .profile => 4

/-- R188. -/
def alarmCode : AlarmCause → Nat
  | .watch .main w => watchCode w
  | .watch .aux w => 4 + watchCode w
  | .overheatWarn p => 8 + driveCode p
  | .tankReserve t => 10 + tankCode t
  | .driveFault d => 14 + driveCode d
  | .rollOverspeed => 16
  | .rollWithoutSelect => 17
  | .fillFault => 18

/-- R188. OVERHEAT posts no cut; its place is never used. -/
def cutCode : Cut → Nat
  | .driveRelease d => driveCode d
  | .rollOverspeed => 2
  | .watch .main w => 2 + watchCode w
  | .watch .aux w => 5 + watchCode w

def targetCode : Target → Nat
  | .mainEngage => 0
  | .auxEngage => 1
  | .roadGear => 2
  | .auxRoll => 3
  | .panelAuthority => 4
  | .tankFill => 5

def modeCode : Mode → Nat
  | .hard => 0
  | .advisory => 1
  | .confirm => 2

def authorityCode : Authority → Nat
  | .cab => 0
  | .toPanel => 1
  | .panel => 2
  | .toCab => 3

/-- R145, in the table's order. -/
def authCauseCode : AuthCause → Nat
  | .requested => 0
  | .granted => 1
  | .notIdle => 2
  | .lockedOut => 3
  | .driveLeft => 4
  | .driveRelease => 5
  | .hostReclaim => 6
  | .cabRequest => 7
  | .reclaimed => 8
  | .reclaimForced => 9
  | .returned => 10
  | .forced => 11
  | .denied => 12
  | .reclaimHeld => 13
  | .cutPosted => 14
  | .cutWithdrawn => 15
  | .resumeHoldOn => 16
  | .resumeHoldOff => 17

def supplyCode : SupplyState → Nat
  | .droop => 0
  | .recovering => 1
  | .normal => 2

def confCode : Conf → Nat
  | .loading => 0
  | .configured => 1
  | .unconfigured => 2
  | .applying => 3

def recorderCode : RecorderState → Nat
  | .recovering => 0
  | .running => 1
  | .failed => 2

def syncCauseCode : SyncCause → Nat
  | .cadence => 0
  | .timer => 1
  | .droop => 2
  | .restart => 3

def endReasonCode : EndReason → Nat
  | .expired => 0
  | .cancelled => 1
  | .keyRemoved => 2
  | .profile => 3

/-- R172, R191. -/
def noticeKindCode : NoticeKind → Nat
  | .driveState => 0
  | .bandChange => 1
  | .tankQuality => 2
  | .protection => 3
  | .lockout => 4
  | .authority => 5
  | .fill => 6
  | .alarm => 7
  | .inputFault => 8
  | .supply => 9
  | .profile => 10
  | .recorder => 11
  | .noticesLost => 12

/-- The place of a discrete input among DI0 to DI11. -/
def discreteIndex : Discrete → Nat
  | .parkBrake => 0
  | .transNeutral => 1
  | .splitRoadPos => 2
  | .splitPumpPos => 3
  | .auxPtoFeedback => 4
  | .panelAuthReq => 5
  | .cabAuthReq => 6
  | .pumpRollSelect => 7
  | .hydrantIntakeOpen => 8
  | .tankToPumpOpen => 9
  | .serviceKey => 10
  | .panelThrottleIdle => 11

/-- A request drive byte (R190). -/
def driveOf (b : Byte) : Option Drive :=
  if b = 0#8 then some .main else if b = 1#8 then some .aux else none

/-- A tank slot by number. -/
def tankOf (n : Nat) : Option Tank :=
  match n with
  | 0 => some .t0
  | 1 => some .t1
  | 2 => some .t2
  | 3 => some .t3
  | _ => none

end Sys2Proof.Machine
end

