-- ==== Sys2Proof/Machine/ProfileImage.lean ====
section
/-! DEFINITION. The profile area: its sections (R193), the profile an image holds, the CRCs of its
sections, and the validation of an image (R178). -/

namespace Sys2Proof.Machine

/-! ## Sections (R193) -/

/-- Where a section begins and how many data bytes it has; its CRC-16 follows them. -/
structure SectionPlace where
  address : Nat
  size : Nat
  deriving DecidableEq, Repr

/-- IDENT, INPUTS, TANKS, DRIVES, PROTECTION, LOCKOUTS, AUTHORITY. -/
def sectionPlaces : List SectionPlace :=
  [⟨0x000, 18⟩, ⟨0x020, 187⟩, ⟨0x100, 759⟩, ⟨0x400, 12⟩, ⟨0x420, 16⟩, ⟨0x440, 400⟩, ⟨0x600, 3⟩]

def sectionPlace (n : Nat) : Option SectionPlace := sectionPlaces[n]?

/-- The data bytes of section `n`. -/
def sectionData (m : Memory) (n : Nat) : List Byte :=
  match sectionPlace n with
  | some p => m.slice p.address p.size
  | none => []

/-- Section `n` ends with the CRC of its data bytes (R178). -/
def sectionCrcOk (m : Memory) (n : Nat) : Bool :=
  match sectionPlace n with
  | some p => decide (m.slice (p.address + p.size) 2 = crcBytes (m.slice p.address p.size))
  | none => false

/-- The CRC of section `n` computed and written (R183). -/
def writeSectionCrc (m : Memory) (n : Nat) : Memory :=
  match sectionPlace n with
  | some p => m.writeList (p.address + p.size) (crcBytes (m.slice p.address p.size))
  | none => m

/-- The CRCs of all seven sections computed and written. -/
def writeCrcs (m : Memory) : Memory := (List.range 7).foldl writeSectionCrc m

/-! ## The profile an image holds -/

def roleOf (code param : Nat) : Role :=
  let pump : Drive := if param = 1 then .aux else .main
  match code with
  | 0 => .probe ((tankOf (param / 4)).getD .t0) (Fin.ofNat 4 param)
  | 1 => .intakePressure pump
  | 2 => .dischargePressure pump
  | 3 => .casingTemp pump
  | 4 => .pitch
  | 5 => .roll
  | _ => .unused

def entryOf (bs : List Byte) (off : Nat) : Entry where
  role := roleOf (rd8 bs off) (rd8 bs (off + 1))
  loCode := rd16 bs (off + 2)
  hiCode := rd16 bs (off + 4)
  loValue := rd16s bs (off + 6)
  hiValue := rd16s bs (off + 8)
  fullRange := rd8 bs (off + 10) = 1

def pulseEntryOf (bs : List Byte) (off : Nat) : PulseEntry :=
  ⟨rd16 bs off, rd8 bs (off + 2), rd16 bs (off + 3)⟩

def probeEntryOf (bs : List Byte) (off : Nat) : ProbeEntry :=
  ⟨rd16s bs off, rd16s bs (off + 2), rd16 bs (off + 4), rd16 bs (off + 6)⟩

def strapPointOf (bs : List Byte) (off : Nat) : StrapPoint :=
  ⟨rd16 bs off, rd16 bs (off + 2)⟩

def tankEntryOf (bs : List Byte) (o : Nat) : TankEntry where
  enabled := rd8 bs o = 1
  probes := (List.range (min 4 (rd8 bs (o + 1)))).map fun i => probeEntryOf bs (o + 2 + 8 * i)
  outletX := rd16s bs (o + 34)
  outletY := rd16s bs (o + 36)
  outletZ := rd16 bs (o + 38)
  minSubmergence := rd16 bs (o + 40)
  strap := (List.range (min 33 (rd8 bs (o + 42)))).map fun j => strapPointOf bs (o + 43 + 4 * j)
  b1 := rd16 bs (o + 175)
  b2 := rd16 bs (o + 177)
  b3 := rd16 bs (o + 179)
  b4 := rd16 bs (o + 181)
  hysteresis := rd16 bs (o + 183)
  settleS := rd8 bs (o + 185)
  spreadLimit := rd16 bs (o + 186)

def refillEntryOf (bs : List Byte) : RefillEntry where
  enabled := rd8 bs 752 = 1
  pump := if rd8 bs 753 = 1 then .aux else .main
  minKPa := rd16 bs 754
  noRiseS := rd8 bs 756
  riseMinLpm := rd16 bs 757

def driveParamsOf (bs : List Byte) : DriveParams where
  shiftMaxRpm := rd16 bs 0
  permWaitS := rd8 bs 2
  confirmMainS := rd8 bs 3
  confirmAuxTenths := rd8 bs 4
  ratio := ⟨some (rd16 bs 5), some (rd16 bs 7)⟩
  rollLimit := rd16 bs 9
  slipTol := rd8 bs 11

def pumpParamsOf (bs : List Byte) (o : Nat) : PumpParams where
  tank := (tankOf (rd8 bs o)).getD .t0
  warnTemp := rd8 bs (o + 1)
  tripTemp := rd8 bs (o + 2)
  maxKPa := rd16 bs (o + 3)
  cavKPa := rd16s bs (o + 5)
  dryS := rd8 bs (o + 7)

/-- The drive states of a mask (R193). -/
def driveStatesOf (mask : Nat) : List DriveState :=
  [DriveState.disengaged, .preparing, .shifting, .engaged, .rolling, .releasing, .faulted].filter
    fun st => mask.testBit (driveStateCode st)

def bandOf (n : Nat) : Band :=
  match n with
  | 0 => .empty
  | 1 => .reserve
  | 2 => .low
  | 3 => .normal
  | _ => .full

def qualityOf (n : Nat) : Quality :=
  match n with
  | 0 => .good
  | 1 => .moving
  | _ => .degraded

def watchOf (n : Nat) : Watch :=
  match n with
  | 0 => .overheat
  | 1 => .overpressure
  | 2 => .cavitation
  | _ => .dryRun

def authorityOf (n : Nat) : Authority :=
  match n with
  | 0 => .cab
  | 1 => .toPanel
  | 2 => .panel
  | _ => .toCab

/-- A term by its kind and its two parameters (R118, R193). A level is asserted at 0 (log entry 14). -/
def termKindOf (kind p1 p2 : Nat) : TermKind :=
  let drive : Drive := if p1 = 1 then .aux else .main
  let tank : Tank := (tankOf p1).getD .t0
  match kind with
  | 0 => .parkBrakeSet
  | 1 => .transNeutral
  | 2 => .roadStill
  | 3 => .roadSpeedAbove p2
  | 4 => .engineAbove p2
  | 5 => .driveStateIn drive (driveStatesOf p2)
  | 6 => .tankBandAtMost tank (bandOf p2)
  | 7 => .tankQualityAtLeastBad tank (qualityOf p2)
  | 8 => .outletUncovered tank
  | 9 => .tiltExtreme
  | 10 => .watchTripped drive (watchOf p2)
  | 11 => .authorityIs (authorityOf p2)
  | 12 => .hydrantOpen
  | 13 => .fillOpen
  | 14 => .supplyNotNormal
  | _ => .inputLevel p1 (p2 = 0)

def termOf (bs : List Byte) (o : Nat) : Term :=
  ⟨termKindOf (rd8 bs o) (rd8 bs (o + 2)) (rd16 bs (o + 3)), rd8 bs (o + 1) = 1⟩

def targetOf (n : Nat) : Target :=
  match n with
  | 0 => .mainEngage
  | 1 => .auxEngage
  | 2 => .roadGear
  | 3 => .auxRoll
  | 4 => .panelAuthority
  | _ => .tankFill

def modeOf (n : Nat) : Mode :=
  match n with
  | 0 => .hard
  | 1 => .advisory
  | _ => .confirm

def lockoutEntryOf (bs : List Byte) (o : Nat) : LockoutEntry where
  inUse := rd8 bs o = 1
  target := targetOf (rd8 bs (o + 1))
  mode := modeOf (rd8 bs (o + 2))
  overridable := rd8 bs (o + 3) = 1
  terms := (List.range (min 4 (rd8 bs (o + 4)))).map fun t => termOf bs (o + 5 + 5 * t)

/-- The profile an image holds. -/
def profileOf (m : Memory) : Profile :=
  let ident := sectionData m 0
  let inputs := sectionData m 1
  let tanks := sectionData m 2
  let protection := sectionData m 4
  let lockouts := sectionData m 5
  let authority := sectionData m 6
  { name := ident.take 16
    version := rd16 ident 16
    entries := (List.range 15).map fun i => entryOf inputs (11 * i)
    pulses := ⟨pulseEntryOf inputs 165, pulseEntryOf inputs 170, pulseEntryOf inputs 175,
      pulseEntryOf inputs 180⟩
    stillMs := rd16 inputs 185
    tanks := ⟨tankEntryOf tanks 0, tankEntryOf tanks 188, tankEntryOf tanks 376,
      tankEntryOf tanks 564⟩
    refill := refillEntryOf tanks
    drives := driveParamsOf (sectionData m 3)
    pumps := ⟨pumpParamsOf protection 0, pumpParamsOf protection 8⟩
    lockouts := (List.range 16).map fun k => lockoutEntryOf lockouts (25 * k)
    authority := ⟨rd8 authority 0, rd8 authority 1, rd8 authority 2⟩ }

/-! ## Validation (R178) -/

/-- A validation check: the offset of the field it reports, and whether it passes. -/
structure Check where
  offset : Nat
  passes : Bool
  deriving DecidableEq, Repr

/-- What validation finds. -/
inductive Finding where
  | crc (sect : Nat)
  | invalid (sect offset : Nat)
  | memory
  deriving DecidableEq, Repr

def within (lo hi x : Int) : Bool := decide (lo ≤ x) && decide (x ≤ hi)

/-- A range check of a one-byte field. -/
def check8 (bs : List Byte) (off lo hi : Nat) : Check := ⟨off, within lo hi (rd8 bs off)⟩

/-- A range check of an unsigned two-byte field. -/
def check16 (bs : List Byte) (off lo hi : Nat) : Check := ⟨off, within lo hi (rd16 bs off)⟩

/-- A range check of a signed two-byte field. -/
def check16s (bs : List Byte) (off : Nat) (lo hi : Int) : Check := ⟨off, within lo hi (rd16s bs off)⟩

/-- IDENT (R178). The name is one field. -/
def identChecks (bs : List Byte) : List Check :=
  [⟨0, (bs.take 16).all fun b => within 0x20 0x7E b.toNat⟩, check16 bs 16 1 65535]

/-- The unit range of a role (R4). -/
def roleRange : Role → Option (Int × Int)
  | .probe _ _ => some (0, 4000)
  | .intakePressure _ => some (-100, 2500)
  | .dischargePressure _ => some (-100, 2500)
  | .casingTemp _ => some (-40, 150)
  | .pitch => some (-1000, 1000)
  | .roll => some (-1000, 1000)
  | .unused => none

/-- The largest parameter of a role code; a role without a parameter takes any byte there. -/
def paramTop (code : Nat) : Nat :=
  match code with
  | 0 => 15
  | 1 => 1
  | 2 => 1
  | 3 => 1
  | _ => 255

/-- The checks of channel `i` (R3). Two channels with one role and parameter are reported at the later
channel, at the parameter where the role takes one and at the role where it does not (log entry 12). -/
def entryChecks (bs : List Byte) (i : Nat) : List Check :=
  let o := 11 * i
  let e := entryOf bs o
  let earlier := (List.range i).map fun j => (entryOf bs (11 * j)).role
  let alone := e.role = .unused || !earlier.contains e.role
  let inRange (x : Int) := match roleRange e.role with
    | some (lo, hi) => within lo hi x
    | none => true
  [check8 bs o 0 6,
   ⟨o, (e.role != .pitch && e.role != .roll) || alone⟩,
   check8 bs (o + 1) 0 (paramTop (rd8 bs o)),
   ⟨o + 1, alone⟩,
   check16 bs (o + 2) 0 4095,
   check16 bs (o + 4) 0 4095,
   ⟨o + 4, decide (e.loCode < e.hiCode)⟩,
   ⟨o + 6, inRange e.loValue⟩,
   ⟨o + 8, inRange e.hiValue⟩,
   check8 bs (o + 10) 0 1]

/-- INPUTS (R3, R178). -/
def inputsChecks (bs : List Byte) : List Check :=
  ((List.range 15).map (entryChecks bs)).flatten ++
  ((List.range 4).map fun i =>
    [check16 bs (165 + 5 * i) 100 5000, check8 bs (165 + 5 * i + 2) 1 255,
     check16 bs (165 + 5 * i + 3) 500 65000]).flatten ++
  [check16 bs 185 500 10000]

/-- The probe slots of tank `n` that some channel names (R21). -/
def namedSlots (entries : List Entry) (n : Nat) : List Nat :=
  entries.filterMap fun e =>
    match e.role with
    | .probe t s => if tankCode t = n then some s.val else none
    | _ => none

/-- The checks of an enabled tank beyond its enabled field (R20, R21, R45). -/
def enabledTankChecks (entries : List Entry) (bs : List Byte) (n : Nat) : List Check :=
  let o := 188 * n
  let e := tankEntryOf bs o
  let count := rd8 bs (o + 1)
  let slots := namedSlots entries n
  let points := rd8 bs (o + 42)
  let at_ (j : Nat) : StrapPoint := strapPointOf bs (o + 43 + 4 * j)
  let vLast := (at_ (points - 1)).volume
  let gap := min (e.b2 - e.b1) (min (e.b3 - e.b2) (e.b4 - e.b3))
  [check8 bs (o + 1) 1 4,
   ⟨o + 1, (List.range count).all slots.contains && slots.all (fun s => decide (s < count))⟩] ++
  ((List.range count).map fun i =>
    let p := o + 2 + 8 * i
    [check16s bs p (-3000) 3000, check16s bs (p + 2) (-3000) 3000, check16 bs (p + 4) 0 4000,
     check16 bs (p + 6) 200 4000]).flatten ++
  [check16s bs (o + 34) (-3000) 3000, check16s bs (o + 36) (-3000) 3000, check16 bs (o + 38) 0 4000,
   check16 bs (o + 40) 0 300, check8 bs (o + 42) 2 33] ++
  ((List.range points).map fun j =>
    let p := o + 43 + 4 * j
    [(⟨p, decide (j + 1 < points) || decide ((at_ j).height ≤ 8000)⟩ : Check),
     ⟨p, if j = 0 then decide ((at_ 0).height = 0) else decide ((at_ (j - 1)).height < (at_ j).height)⟩,
     ⟨p + 2, decide (j + 1 < points) || decide ((at_ j).volume ≤ 40000)⟩,
     ⟨p + 2, j = 0 || decide ((at_ (j - 1)).volume ≤ (at_ j).volume)⟩]).flatten ++
  [check16 bs (o + 175) 0 40000,
   check16 bs (o + 177) 0 40000, ⟨o + 177, decide (e.b1 < e.b2)⟩,
   check16 bs (o + 179) 0 40000, ⟨o + 179, decide (e.b2 < e.b3)⟩,
   check16 bs (o + 181) 0 40000, ⟨o + 181, decide (e.b3 < e.b4) && decide (e.b4 ≤ vLast)⟩,
   check16 bs (o + 183) 0 2000, ⟨o + 183, decide (e.hysteresis < gap)⟩,
   check8 bs (o + 185) 0 30, check16 bs (o + 186) 10 500]

/-- The checks of tank `n` (R21). -/
def tankChecks (entries : List Entry) (bs : List Byte) (n : Nat) : List Check :=
  let o := 188 * n
  let on := rd8 bs o = 1
  [check8 bs o 0 1, ⟨o, !on || rd8 bs 0 = 1⟩, ⟨o, on || (namedSlots entries n).isEmpty⟩] ++
  (if on then enabledTankChecks entries bs n else [])

/-- The checks of the refill settings (R52). R52 states those of refill enabled. That with T0 enabled every field is
checked even with refill disabled, and with T0 disabled only that refill is not enabled, is the model's choice (log
entry 51). -/
def refillChecks (entries : List Entry) (bs : List Byte) : List Check :=
  let r := refillEntryOf bs
  if rd8 bs 0 = 1 then
    [check8 bs 752 0 1, check8 bs 753 0 1,
     ⟨753, !r.enabled || entries.any fun e => e.role = .intakePressure r.pump⟩,
     check16 bs 754 0 1000, check8 bs 756 10 120, check16 bs 757 10 2000]
  else [⟨752, !r.enabled⟩]

/-- TANKS (R21, R45, R52). -/
def tanksChecks (entries : List Entry) (bs : List Byte) : List Check :=
  ((List.range 4).map (tankChecks entries bs)).flatten ++ refillChecks entries bs

/-- DRIVES (R66). -/
def drivesChecks (bs : List Byte) : List Check :=
  [check16 bs 0 500 1200, check8 bs 2 2 30, check8 bs 3 1 10, check8 bs 4 5 50, check16 bs 5 200 3000,
   check16 bs 7 200 3000, check16 bs 9 30 400, check8 bs 11 5 30]

/-- Tank `n` is enabled in the TANKS section. -/
def tankEnabled (tanks : List Byte) (n : Nat) : Bool := rd8 tanks (188 * n) = 1

/-- One pump's part of PROTECTION (R97). -/
def pumpChecks (tanks bs : List Byte) (o : Nat) : List Check :=
  [check8 bs o 0 3, ⟨o, tankEnabled tanks (rd8 bs o)⟩, check8 bs (o + 1) 30 140,
   check8 bs (o + 2) 40 145, ⟨o + 2, decide (rd8 bs (o + 1) < rd8 bs (o + 2))⟩,
   check16 bs (o + 3) 300 2400, check16s bs (o + 5) (-100) 0, check8 bs (o + 7) 2 60]

/-- PROTECTION (R97). -/
def protectionChecks (tanks bs : List Byte) : List Check :=
  pumpChecks tanks bs 0 ++ pumpChecks tanks bs 8

/-- The checks of a term's parameters, by its kind; one that the kind does not use is 0 (R117, R118, R193). -/
def paramChecks (tanks bs : List Byte) (o : Nat) : List Check :=
  let one (hi : Nat) := check8 bs (o + 2) 0 hi
  let two (hi : Nat) := check16 bs (o + 3) 0 hi
  let tank : List Check := [one 3, ⟨o + 2, tankEnabled tanks (rd8 bs (o + 2))⟩]
  match rd8 bs o with
  | 3 => [one 0, two 1500]
  | 4 => [one 0, two 6000]
  | 5 => [one 1, check16 bs (o + 3) 1 127,
      ⟨o + 3, rd8 bs (o + 2) = 1 || !(rd16 bs (o + 3)).testBit (driveStateCode .rolling)⟩]
  | 6 => tank ++ [two 4]
  | 7 => tank ++ [two 2]
  | 8 => tank ++ [two 0]
  | 10 => [one 1, two 3]
  | 11 => [one 0, two 3]
  | 15 => [one 11, two 1]
  | _ => [one 0, two 0]

/-- The checks of lockout slot `k` (R117). -/
def slotChecks (tanks bs : List Byte) (k : Nat) : List Check :=
  let o := 25 * k
  [check8 bs o 0 1] ++
  (if rd8 bs o = 1 then
    [check8 bs (o + 1) 0 5, check8 bs (o + 2) 0 2, check8 bs (o + 3) 0 1,
     ⟨o + 3, !(rd8 bs (o + 2) = 1 && rd8 bs (o + 3) = 1)⟩, check8 bs (o + 4) 1 4] ++
    ((List.range (rd8 bs (o + 4))).map fun t =>
      let p := o + 5 + 5 * t
      [check8 bs p 0 15, check8 bs (p + 1) 0 1] ++ paramChecks tanks bs p).flatten
  else [])

/-- LOCKOUTS (R117). -/
def lockoutsChecks (tanks bs : List Byte) : List Check :=
  ((List.range 16).map (slotChecks tanks bs)).flatten

/-- AUTHORITY (R136). -/
def authorityChecks (bs : List Byte) : List Check :=
  [check8 bs 0 1 10, check8 bs 1 2 15, check8 bs 2 2 30]

/-- The checks of section `n`, in the order they are made. -/
def sectionChecks (m : Memory) (n : Nat) : List Check :=
  let bs := sectionData m n
  let tanks := sectionData m 2
  match n with
  | 0 => identChecks bs
  | 1 => inputsChecks bs
  | 2 => tanksChecks (profileOf m).entries bs
  | 3 => drivesChecks bs
  | 4 => protectionChecks tanks bs
  | 5 => lockoutsChecks tanks bs
  | 6 => authorityChecks bs
  | _ => []

/-- The first check of section `n` that fails. -/
def sectionFinding (m : Memory) (n : Nat) : Option Finding :=
  ((sectionChecks m n).find? fun c => !c.passes).map fun c => .invalid n c.offset

/-- The second pass of R178. -/
def fieldFinding (m : Memory) : Option Finding := (List.range 7).findSome? (sectionFinding m)

/-- The first pass of R178. -/
def crcFinding (m : Memory) : Option Finding :=
  ((List.range 7).find? fun n => !sectionCrcOk m n).map .crc

/-- Validation of an image: none when it is valid (R178). -/
def validate (m : Memory) : Option Finding :=
  match crcFinding m with
  | some f => some f
  | none => fieldFinding m

end Sys2Proof.Machine
end

