-- ==== Sys2Proof/Machine/Ops.lean ====
section
/-! DEFINITION. The operations every block shares: reading published values and parameters in use,
handing over notices and publications, the serial memory port, and forming a reply. -/

namespace Sys2Proof.Machine

/-! ## Published input values (R2) -/

/-- The published level of a discrete input. -/
def State.level (s : State) (d : Discrete) : Bool :=
  ((s.isu.pub.discretes[discreteIndex d]?).map (·.level)).getD false

/-- The last publication carries a change of this input (R15). -/
def State.changed (s : State) (d : Discrete) : Bool :=
  ((s.isu.pub.discretes[discreteIndex d]?).map (·.changed)).getD false

/-- A rising edge in the last publication (R15). -/
def State.rising (s : State) (d : Discrete) : Bool := s.changed d && s.level d

/-- A falling edge in the last publication (R15). -/
def State.falling (s : State) (d : Discrete) : Bool := s.changed d && !s.level d

/-- The published state, period and speed of a pulse input. -/
def State.pulse (s : State) (p : PulseIn) : PubPulse := s.isu.pub.pulses.get p

/-- The published ENGINE speed is known and at or below `rpm` (R66). -/
def State.engineAtMost (s : State) (rpm : Nat) : Bool :=
  match (s.pulse .engine).speed with
  | some v => decide (v ≤ rpm)
  | none => false

/-- The pulse input of a drive's pump. -/
def pumpPulse : Drive → PulseIn
  | .main => .mainPump
  | .aux => .auxPump

/-- The profile in use assigns a channel to the role (R23, R96). -/
def State.assigns (s : State) (role : Role) : Bool :=
  match s.pfu.inUse with
  | some p => p.entries.any fun e => e.role = role
  | none => false

/-- The health and the value last published under a role: health NONE where the profile in use assigns no
channel, and UNKNOWN without a value where none has been published under the role yet (R2, R23, R96; log
entry 6). -/
def State.reading (s : State) (role : Role) : Health × Option Int :=
  if s.assigns role then
    match s.isu.pub.channels.find? fun c => c.role = role with
    | some c => (c.health, c.value)
    | none => (.unknown, none)
  else (.none, none)

/-- The value of a channel that counts as known: GOOD, or HELD with its held value. -/
def State.knownValue (s : State) (role : Role) : Option Int :=
  match s.reading role with
  | (.good, v) => v
  | (.held, v) => v
  | _ => none

/-! ## Parameters in use (R180, and the defaults of R9, R12, R66, R97, R136) -/

def State.driveParams (s : State) : DriveParams :=
  match s.pfu.inUse with
  | some p => p.drives
  | none => ⟨800, 10, 4, 20, ⟨none, none⟩, 160, 15⟩

def State.authorityParams (s : State) : AuthorityParams :=
  match s.pfu.inUse with
  | some p => p.authority
  | none => ⟨3, 5, 10⟩

def State.pumpParams (s : State) (d : Drive) : PumpParams :=
  match s.pfu.inUse with
  | some p => p.pumps.get d
  | none => ⟨.t0, 60, 70, 1700, -60, 10⟩

def State.holdMaxMs (s : State) (p : PulseIn) : Nat :=
  match s.pfu.inUse with
  | some q => (q.pulses.get p).holdMaxMs
  | none => match p with
    | .road => 2000
    | _ => 500

def State.stillMs (s : State) : Nat :=
  match s.pfu.inUse with
  | some p => p.stillMs
  | none => defaultStillMs

/-- The entry of an enabled tank. -/
def State.tankEntry (s : State) (t : Tank) : Option TankEntry :=
  match s.pfu.inUse with
  | some p => if (p.tanks.get t).enabled then some (p.tanks.get t) else none
  | none => none

/-- The seconds the DRC's time base reads (R152, R163). -/
def State.seconds (s : State) : Nat :=
  saturate 4294967295 (s.drc.timeBase.base + (s.now - s.drc.timeBase.setAt) / 1000000)

/-! ## What one block's event reads of another -/

def DriveState.turning : DriveState → Bool
  | .engaged => true
  | .rolling => true
  | _ => false

def State.driveState (s : State) (d : Drive) : DriveState := (s.deu.drives.get d).state

/-- ENGAGED or ROLLING as last published. -/
def State.turning (s : State) (d : Drive) : Bool := (s.driveState d).turning

def State.bothDisengaged (s : State) : Bool :=
  s.driveState .main = .disengaged && s.driveState .aux = .disengaged

/-- A pump draws from its tank when its drive turns it and its source is TANK or BOTH (R98). -/
def State.draws (s : State) (d : Drive) : Bool :=
  s.turning d && (s.ppu.sources.get d = .tank || s.ppu.sources.get d = .both)

/-- Some pump draws from the tank (R98). -/
def State.drawnFrom (s : State) (t : Tank) : Bool :=
  (s.draws .main && (s.pumpParams .main).tank = t) || (s.draws .aux && (s.pumpParams .aux).tank = t)

/-- The lowest-numbered effective entry with the target (R120, R121). -/
def Lku.effect (l : Lku) (t : Target) : Option Nat :=
  ((List.range 16).zip (l.table.zip l.records)).findSome? fun (n, e, r) =>
    if e.inUse && e.target = t && r.effective then some n else none

def State.effective (s : State) (t : Target) : Bool := (s.lku.effect t).isSome

/-! ## Notices (R172 to R174) -/

/-- A notice as a block hands it over; the Link Unit stamps it. -/
structure News where
  kind : NoticeKind
  subject : Byte
  values : List Byte
  deriving DecidableEq, Repr

/-- The kind is masked (R174). -/
def Lnk.masked (l : Lnk) (k : NoticeKind) : Bool := l.mask.getLsbD (noticeKindCode k)

/-- A notice handed over: discarded when its kind is masked, lost when the queue is full (R173, R174). -/
def Lnk.post (l : Lnk) (time : Nat) (n : News) : Lnk :=
  if l.masked n.kind then l
  else if l.notices.length < noticeCapacity then
    { l with notices := l.notices ++ [⟨n.kind, time, n.subject, n.values⟩], attnLow := true }
  else { l with lost := saturate 65535 (l.lost + 1) }

/-- The queue after notices were removed: a NOTICES_LOST joins it if any were lost, and ATTN# follows the
queue (R173). -/
def Lnk.afterRemoval (l : Lnk) (time : Nat) : Lnk :=
  let l := if 0 < l.lost then
      { l with notices := l.notices ++ [⟨.noticesLost, time, 0#8, padTo 6 (be16 l.lost)⟩], lost := 0 }
    else l
  { l with attnLow := !l.notices.isEmpty }

def State.notify (s : State) (news : List News) : State :=
  { s with lnk := news.foldl (fun l n => l.post s.seconds n) s.lnk }

/-! ## Publications -/

/-- What a block's event hands its neighbours. -/
structure Out where
  news : List News := []
  events : List (Block × Event) := []
  deriving DecidableEq, Repr

/-- One event to each of several blocks. -/
def toBlocks (bs : List Block) (e : Event) : List (Block × Event) := bs.map fun b => (b, e)

/-- An event for one block, unless its list of operations is empty. -/
def unlessEmpty {α : Type} (b : Block) (e : List α → Event) (xs : List α) : List (Block × Event) :=
  if xs.isEmpty then [] else [(b, e xs)]

/-- Notices and publications handed over. -/
def State.emit (s : State) (o : Out) : State :=
  { s.notify o.news with agenda := s.agenda ++ o.events }

/-! ## The serial memory (R153, R179, R181) -/

def pageSize : Nat := 64

def slotSize : Nat := 32

/-- Where the ring begins (R153). -/
def ringBase : Nat := 0x1000

/-- The address of ring slot `i` (R153). -/
def slotAddress (i : Nat) : Nat := ringBase + slotSize * i

/-- The address of a profile page (R181). -/
def pageAddress (page : Nat) : Nat := pageSize * page

/-- The serial memory address at which a port operation begins. -/
def PortOp.address : PortOp → Nat
  | .pageRead page => pageAddress page
  | .pageWrite page _ => pageAddress page
  | .slotRead i => slotAddress i
  | .slotWrite i _ => slotAddress i

/-- How many bytes a port operation covers. -/
def PortOp.size : PortOp → Nat
  | .pageRead _ => pageSize
  | .pageWrite _ _ => pageSize
  | .slotRead _ => slotSize
  | .slotWrite _ _ => slotSize

/-- The arbiter serves a waiting block when the port is free. -/
def Port.serve (p : Port) : Port :=
  match p.busy, p.pfuWaits, p.drcWaits with
  | none, some op, none => { p with busy := some (.pfu, op), pfuWaits := none, last := some .pfu }
  | none, none, some op => { p with busy := some (.drc, op), drcWaits := none, last := some .drc }
  | none, some a, some b =>
    if p.last = some .pfu then { p with busy := some (.drc, b), drcWaits := none, last := some .drc }
    else { p with busy := some (.pfu, a), pfuWaits := none, last := some .pfu }
  | _, _, _ => p

/-- A block asks for an operation. -/
def Port.ask (p : Port) (c : Client) (op : Option PortOp) : Port :=
  match op, c with
  | none, _ => p
  | some op, .pfu => { p with pfuWaits := some op }.serve
  | some op, .drc => { p with drcWaits := some op }.serve

/-- The operation in progress ends. -/
def Port.free (p : Port) : Port := { p with busy := none }.serve

/-! ## Replies (R168, R170, R189) -/

/-- The reasons of a refusal (R170). -/
inductive Reason where
  | state
  | lockedOut (entry : Nat)
  | driveActive
  | notActive
  | notOverridable
  | overrideFull
  | notInRing (oldest newest : Nat)
  | recorderFailed
  | invalid (sect offset : Nat)
  deriving DecidableEq, Repr, Inhabited

/-- The statuses of a reply (R168). -/
inductive Status where
  | ok
  | accepted
  | refused (reason : Reason)
  | unknownKind
  | badLength
  | badValue
  | notConfigured
  | keyNeeded
  | busy
  deriving DecidableEq, Repr, Inhabited

/-- A refusal's reason byte and parameters (R189). -/
def Reason.bytes : Reason → List Byte
  | .state => [1#8]
  | .lockedOut n => [2#8, byte n]
  | .driveActive => [3#8]
  | .notActive => [4#8]
  | .notOverridable => [5#8]
  | .overrideFull => [6#8]
  | .notInRing oldest newest => 7#8 :: (be32 oldest ++ be32 newest)
  | .recorderFailed => [8#8]
  | .invalid sect offset => 9#8 :: byte sect :: be16 offset

/-- A status byte with what follows it (R189). -/
def Status.bytes : Status → List Byte
  | .ok => [0#8]
  | .accepted => [1#8]
  | .refused r => 2#8 :: r.bytes
  | .unknownKind => [3#8]
  | .badLength => [4#8]
  | .badValue => [5#8]
  | .notConfigured => [6#8]
  | .keyNeeded => [7#8]
  | .busy => [8#8]

/-- The reply frame to a request, from its body (R168, R189). The kind of a reply to a request of kind 0x80 or
above wraps in its byte, which is the model's choice (log entry 38). -/
def replyFrame (kind tag : Byte) (body : List Byte) : List Byte :=
  let covered := byte body.length :: (kind + 0x80#8) :: tag :: body
  0xA5#8 :: (covered ++ crcBytes covered)

/-- The request in service is answered with the reply body. -/
def Lnk.answer (l : Lnk) (body : List Byte) : Lnk :=
  match l.service with
  | some v => { l with service := some { v with reply := some (replyFrame v.kind v.tag body) } }
  | none => l

def State.answer (s : State) (body : List Byte) : State := { s with lnk := s.lnk.answer body }

/-- Answered with a status alone. -/
def State.answerStatus (s : State) (st : Status) : State := s.answer st.bytes

/-- Answered OK with reply data. -/
def State.answerOk (s : State) (data : List Byte) : State := s.answer (Status.ok.bytes ++ data)

end Sys2Proof.Machine
end

