-- ==== Sys2Proof/Machine/Inputs.lean ====
section
/-! DEFINITION. The Input Scan Unit (R1 to R17). -/

namespace Sys2Proof.Machine

/-! ## Analog channels -/

/-- R5: in range, or every code with full_range. -/
def goodCode (e : Entry) (code : Nat) : Bool :=
  e.fullRange || (decide (40 ≤ code) && decide (code ≤ 4055))

/-- R4. -/
def convert (e : Entry) (code : Nat) : Int :=
  let v := e.loValue + divNearest (((code : Int) - e.loCode) * (e.hiValue - e.loValue)) (e.hiCode - e.loCode)
  match roleRange e.role with
  | some (lo, hi) => clamp lo hi v
  | none => v

/-- One scan of a channel: what it keeps and the value it publishes (R4, R5). -/
def evalChannel (e : Entry) (code : Nat) (ch : Channel) : Channel × Option Int :=
  if goodCode e code then
    let v := if e.role = .unused then none else some (convert e code)
    (⟨.good, v, 0, .no⟩, v)
  else match ch.lastGood with
    | none => (⟨.unknown, none, 51, .no⟩, none)
    | some v => match ch.health with
      | .good => (⟨.held, some v, 1, .no⟩, some v)
      | .held =>
        if ch.hold < 50 then (⟨.held, some v, ch.hold + 1, .no⟩, some v)
        else (⟨.unknown, some v, 51, .no⟩, some v)
      | _ => (⟨.unknown, some v, ch.hold, .no⟩, some v)

/-- Whether the change of health is notified (R7). -/
def healthNotified (before : Channel) (after : Health) : Bool :=
  match before.reseed with
  | .byReset => after = .unknown
  | .byProfile h => after = .unknown || (after = .good && (h = .held || h = .unknown))
  | .no => before.health != after

/-- The INPUT_FAULT notice of channel `n` (R7, R191). -/
def inputFault (n : Nat) (role : Role) (health : Health) (value : Option Int) : News :=
  ⟨.inputFault, byte n,
    [byte (roleCode role), opt8 (roleParam role), byte (healthCode health)] ++ opt16s value ++ [0#8]⟩

/-- A channel number, its entry, its code and what it keeps. -/
def scanRows (i : Isu) (codes : List (BitVec 12)) : List (Nat × Entry × Nat × Channel) :=
  (List.range 15).zip (i.entries.zip ((codes.map (·.toNat)).zip i.channels))

/-- The INPUT_FAULT notices of a scan (R7). Their order, by rising channel number, is the model's choice (log
entry 31). -/
def scanNews (i : Isu) (codes : List (BitVec 12)) : List News :=
  (scanRows i codes).filterMap fun (n, e, code, ch) =>
    let (after, value) := evalChannel e code ch
    if e.role != .unused && healthNotified ch after.health then
      some (inputFault n e.role after.health value)
    else none

/-- AIN15 in millivolts (R8). -/
def supplyMillivolts (code : Nat) : Nat := code * 20000 / 4096

/-! ## Pulse inputs -/

/-- How long the hold timer runs after a pulse (R9). -/
def holdDuration (holdMaxMs : Nat) (period : Option Micros) : Micros :=
  match period with
  | some p => min (holdMaxMs * 1000) (max holdFloor (p * 5 / 2))
  | none => holdMaxMs * 1000

/-- A pulse at `now` (R10). A period is at least 1 µs (R9). -/
def pulseTaken (now : Micros) (holdMaxMs : Nat) (r : PulseRec) : PulseRec :=
  match r.state, r.last with
  | .stopped, _ => ⟨.creeping, some now, none, .started now (holdDuration holdMaxMs none)⟩
  | _, none => ⟨.creeping, some now, none, .started now (holdDuration holdMaxMs none)⟩
  | _, some t =>
    let period := max 1 (now - t)
    ⟨.running, some now, some period, .started now (holdDuration holdMaxMs (some period))⟩

/-- An input that has stopped (R10). -/
def PulseRec.stoppedRec : PulseRec := ⟨.stopped, none, none, .stopped⟩

/-- The speed published for an input (R11). -/
def speedOf (inUse : Option Profile) (p : PulseIn) (r : PulseRec) : Option Nat :=
  match r.state, r.period with
  | .running, some period =>
    match inUse with
    | none => none
    | some prof =>
      let e := prof.pulses.get p
      match p with
      | .road => some (saturate 1500 (divNearest 36000000000 (period * e.perKm)).toNat)
      | _ => some (saturate 6000 (divNearest 60000000 (period * e.perRev)).toNat)
  | .running, none => none
  | _, _ => some 0

def pubPulse (inUse : Option Profile) (p : PulseIn) (r : PulseRec) : PubPulse :=
  ⟨r.state, if r.state = .running then r.period else none, speedOf inUse p r⟩

/-! ## Discrete inputs -/

/-- One sample of a discrete input after the first scan (R14). -/
def debounceSample (sample : Bool) (d : Debounce) : Debounce :=
  if sample = d.level then ⟨d.level, 0⟩
  else if d.count < 2 then ⟨d.level, d.count + 1⟩
  else ⟨sample, 0⟩

/-- One sample: taken directly at the first scan after a reset (R14). -/
def takeSample (scanned : Bool) (sample : Bool) (d : Debounce) : Debounce :=
  if scanned then debounceSample sample d else ⟨sample, 0⟩

def samplesOf (samples : BitVec 12) : List Bool := (List.range 12).map samples.getLsbD

/-- R16. -/
def splitOf (road pump : Bool) : Split :=
  match road, pump with
  | true, false => .road
  | false, true => .pump
  | false, false => .between
  | true, true => .conflict

/-! ## The scan -/

/-- One scan: conversion, latching, debouncing and publication (R1, R2). -/
def isuScan (s : State) (codes : List (BitVec 12)) (samples : BitVec 12) : Isu :=
  let i := s.isu
  let rows := scanRows i codes
  let supply := (codes.getD 15 0#12).toNat
  let debounced := ((samplesOf samples).zip i.debounce).map fun (x, d) => takeSample i.scanned x d
  let lvl (d : Discrete) : Bool := ((debounced[discreteIndex d]?).map (·.level)).getD false
  { i with
    scanTimer := i.scanTimer.again scanPeriod
    channels := rows.map fun (_, e, code, ch) => (evalChannel e code ch).1
    debounce := debounced
    scanned := true
    pub :=
      { channels := rows.map fun (_, e, code, ch) =>
          let (after, value) := evalChannel e code ch
          ⟨e.role, code, value, after.health⟩
        supplyCode := supply
        supplyMv := supplyMillivolts supply
        supplyHealth := .good
        pulses := ⟨pubPulse s.pfu.inUse .engine i.pulses.engine,
          pubPulse s.pfu.inUse .mainPump i.pulses.mainPump,
          pubPulse s.pfu.inUse .auxPump i.pulses.auxPump,
          pubPulse s.pfu.inUse .road i.pulses.road⟩
        roadStill := i.roadStill
        discretes := (i.debounce.zip debounced).map fun (before, after) =>
          ⟨after.level, i.scanned && before.level != after.level⟩
        split := splitOf (lvl .splitRoadPos) (lvl .splitPumpPos) } }

/-- The Input Scan Unit after a pulse; a ROAD pulse stops the still timer and ends ROAD_STILL (R12). -/
def isuPulse (s : State) (p : PulseIn) : Isu :=
  let pulses := s.isu.pulses.set p (pulseTaken s.now (s.holdMaxMs p) (s.isu.pulses.get p))
  match p with
  | .road => { s.isu with pulses := pulses, stillTimer := .stopped, roadStill := false }
  | _ => { s.isu with pulses := pulses }

/-- The Input Scan Unit after a hold timer expiry; ROAD entering STOPPED starts the still timer (R12). -/
def isuHoldExpired (s : State) (p : PulseIn) : Isu :=
  let pulses := s.isu.pulses.set p .stoppedRec
  match p with
  | .road =>
    { s.isu with
      pulses := pulses, stillTimer := .started s.now (ms s.stillMs), stoppedAt := s.now }
  | _ => { s.isu with pulses := pulses }

/-- The still timer expires (R12). -/
def isuStillExpired (s : State) : Isu :=
  { s.isu with
    stillTimer := .stopped
    roadStill := s.isu.roadStill || s.isu.pulses.road.state = .stopped }

/-! ## A change of the entries in use -/

/-- Whether a channel is reseeded at a change of the configuration state (R6). -/
def reseeds (before after : Conf) (old new : Entry) : Bool :=
  match before, after with
  | .loading, .configured => new.role != .unused
  | .applying, .configured => old != new
  | .applying, .loading => old.role != .unused
  | _, _ => false

/-- Reseeding discards the last good value and the hold count (R6). That the count stands at 0 until the next scan is
the model's choice (log entry 53). -/
def reseedChannel (ch : Channel) : Channel :=
  { ch with
    lastGood := none, hold := 0
    reseed := if ch.reseed = .no then .byProfile ch.health else ch.reseed }

/-- The still timer's new expiry when the entries in use change (R13). -/
def restill (s : State) : Timer × Bool :=
  match s.isu.stillTimer with
  | .running _ =>
    if s.isu.stoppedAt + ms s.stillMs ≤ s.now then (.stopped, true)
    else (.running (s.isu.stoppedAt + ms s.stillMs), s.isu.roadStill)
  | t => (t, s.isu.roadStill)

/-- The changes of the configuration state at which the entries in use change (R6, R13). -/
def entriesChange (before after : Conf) : Bool :=
  match before, after with
  | .loading, .configured => true
  | .applying, .configured => true
  | .applying, .loading => true
  | _, _ => false

/-- The Input Scan Unit takes a change of the configuration state (R3, R6, R13). -/
def isuConf (s : State) (before after : Conf) : Isu :=
  let entries := match s.pfu.inUse with
    | some p => p.entries
    | none => List.replicate 15 .unusedEntry
  let (timer, still) := restill s
  if !entriesChange before after then s.isu else
  { s.isu with
    entries := entries
    channels := (s.isu.channels.zip (s.isu.entries.zip entries)).map fun (ch, old, new) =>
      if reseeds before after old new then reseedChannel ch else ch
    stillTimer := timer
    roadStill := still }

end Sys2Proof.Machine
end

