-- ==== Sys2Proof/Machine/Gauging.lean ====
section
/-! DEFINITION. The Tank Gauge Unit (R18 to R43): the nine stages of a gauge cycle. -/

namespace Sys2Proof.Machine

/-! ## Stage 1: probes (R22) -/

/-- The grade of a head (R22). -/
def gradeHead (rangeMm head : Int) : ProbeStatus :=
  if head ≤ 5 then .dry else if head = rangeMm then .saturated else .wet

/-- A fitted probe's status and head (R22). -/
def readProbe (s : State) (t : Tank) (slot : Fin 4) (e : ProbeEntry) : ProbeStatus × Int :=
  match s.knownValue (.probe t slot) with
  | none => (.excluded, 0)
  | some v => let head := clamp 0 e.rangeMm v; (gradeHead e.rangeMm head, head)

/-! ## Stage 2: slopes (R23, R24) -/

/-- A slope and its health (R23). -/
def readSlope (s : State) (role : Role) : Int × Health :=
  match s.reading role with
  | (.good, some v) => (clamp (-600) 600 v, .good)
  | (.held, some v) => (clamp (-600) 600 v, .held)
  | (.none, _) => (0, .none)
  | _ => (0, .unknown)

/-- A slope known to be beyond 350 ‰ (R24). -/
def steep (x : Int × Health) : Bool :=
  (x.2 = .good || x.2 = .held) && decide (350 < x.1.natAbs)

/-- TILT_EXTREME (R24). -/
def tiltExtreme (p q : Int × Health) : Tri :=
  if steep p || steep q then .yes
  else if p.2 = .unknown || q.2 = .unknown then .unknown
  else .no

def readTilt (s : State) : Tilt :=
  let p := readSlope s .pitch
  let q := readSlope s .roll
  ⟨p.1, q.1, p.2, q.2, tiltExtreme p q⟩

/-- A slope channel is UNKNOWN (R23, R32). -/
def Tilt.degrades (t : Tilt) : Bool := t.pHealth = .unknown || t.qHealth = .unknown

/-! ## Stage 3: the centre estimate (R25) -/

def centreEstimate (e : ProbeEntry) (tilt : Tilt) (head : Int) : Int :=
  e.z + head + divNearest (e.x * tilt.p + e.y * tilt.q) 1000

/-- A probe of the tank after stages 1 and 3. -/
structure Probe where
  status : ProbeStatus
  z : Int
  estimate : Int
  deriving DecidableEq, Repr

/-- The fitted probes, in slot order. -/
def fittedProbes (s : State) (t : Tank) (e : TankEntry) (tilt : Tilt) : List Probe :=
  ((List.range 4).zip e.probes).map fun (slot, p) =>
    let (status, head) := readProbe s t (Fin.ofNat 4 slot) p
    ⟨status, p.z, centreEstimate p tilt head⟩

/-- Four statuses, ABSENT beyond the fitted probes (R22). -/
def probeStatuses (ps : List Probe) : List ProbeStatus :=
  (ps.map Probe.status ++ List.replicate 4 ProbeStatus.absent).take 4

/-! ## Stage 4: combination (R26, R27) -/

def insertSorted (x : Int) : List Int → List Int
  | [] => [x]
  | y :: ys => if x ≤ y then x :: y :: ys else y :: insertSorted x ys

def sorted (xs : List Int) : List Int := xs.foldr insertSorted []

def sumOf (xs : List Int) : Int := xs.foldr (· + ·) 0

/-- What stage 4 gives: the raw centre height, the combination grade and OVER_RANGE. -/
structure Combined where
  h : Int
  grade : Quality
  overRange : Bool
  deriving DecidableEq, Repr

/-- The worse of two qualities (R32). -/
def Quality.worse (a b : Quality) : Quality := if qualityCode a < qualityCode b then b else a

/-- The estimates of the WET probes combined (R26). -/
def combineWet (limit : Int) (xs : List Int) : Int × Quality :=
  let ys := sorted xs
  let low := ys.getD 0 0
  let high := ys.getD (ys.length - 1) 0
  if high - low ≤ limit then (divNearest (sumOf xs) xs.length, .good)
  else match ys with
    | [_, b, _] => (b, .degraded)
    | [_, b, c, _] => (divNearest (b + c) 2, .degraded)
    | _ => (low, .degraded)

/-- Stage 4; none when the tank has no usable probe (R26, R27). -/
def combine (limit : Int) (ps : List Probe) : Option Combined :=
  let of (st : ProbeStatus) := ps.filter fun p => p.status = st
  let wet := (of .wet).map (·.estimate)
  let dry := of .dry
  let full := (of .saturated).map (·.estimate)
  let spoilt := ps.any fun p => p.status = .excluded || p.status = .saturated
  let cap (q : Quality) := if spoilt then Quality.worse q .degraded else q
  if !wet.isEmpty then
    let (h, grade) := combineWet limit wet
    some ⟨h, cap grade, false⟩
  else if !dry.isEmpty then
    some ⟨0, cap (if dry.any fun p => p.z = 0 then .good else .degraded), false⟩
  else match full with
    | [] => none
    | x :: xs => some ⟨xs.foldl max x, .degraded, true⟩

/-! ## Stages 5 to 9 -/

/-- The last strapping point (R20). -/
def TankEntry.lastPoint (e : TankEntry) : StrapPoint := e.strap.getLastD ⟨0, 0⟩

/-- Stage 5 (R28). -/
def clampHeight (e : TankEntry) (h : Int) : Int := clamp 0 (e.lastPoint.height + 500) h

/-- A tank is settled at a still-cycle count (R29). -/
def settled (count settleS : Nat) : Bool := decide (1 ≤ count) && decide (settleS * 1000 ≤ (count - 1) * 50)

/-- The still-cycle count after a cycle (R29). -/
def stillCountAfter (roadStill : Bool) (count : Nat) : Nat :=
  if roadStill then min 601 (count + 1) else 0

/-- Stage 6 with gain `k` (R30). -/
def filterStep (k f h : Int) : Int :=
  let d := divTrunc ((h - f) * k) 16
  if h ≠ f ∧ d = 0 then (if f < h then f + 1 else f - 1) else f + d

/-- Stage 6 for a tank: a reinitialised filter, or one that has held no height, takes H (R30, R31). -/
def filterHeight (keep : TankKeep) (isSettled : Bool) (h : Int) : Int :=
  match keep.f with
  | some f => filterStep (if keep.reinit then 16 else if isSettled then 8 else 1) f h
  | none => h

/-- A height converted through the strapping table (R33). -/
def strapFrom : List StrapPoint → Int → Int
  | [], _ => 0
  | [p], h => if p.height ≤ h then p.volume else 0
  | p :: q :: rest, h =>
    if h < p.height then 0
    else if h < q.height then
      p.volume + divNearest ((h - p.height) * (q.volume - p.volume)) (q.height - p.height)
    else strapFrom (q :: rest) h

def TankEntry.strapAt (e : TankEntry) (h : Int) : Int := strapFrom e.strap h

/-- The residue height (R34). -/
def residueHeight (e : TankEntry) (tilt : Tilt) : Int :=
  max 0 (e.outletZ + e.minSubmergence + divNearest (e.outletX * tilt.p + e.outletY * tilt.q) 1000)

/-- The usable volume (R34). -/
def usableVolume (e : TankEntry) (v residue : Int) : Int := max 0 (v - e.strapAt residue)

/-- The draw rate from a history as it stands (R37). -/
def drawRate (history : List Int) (v : Int) : Option Int :=
  match history with
  | oldest :: _ => if history.length = 40 then some ((v - oldest) * 30) else none
  | [] => none

/-- The history with the present volume behind it, 40 volumes at most (R36). -/
def extendHistory (history : List Int) (v : Int) : List Int :=
  let longer := history ++ [v]
  if 40 < longer.length then longer.drop 1 else longer

/-- The time to empty (R38). -/
def timeToEmpty (rate : Option Int) (u : Int) : TimeToEmpty :=
  match rate with
  | none => .unknown
  | some r => if 0 ≤ r then .notDraining else .seconds (saturate 5999 (divTrunc (u * 60) (-r)).toNat)

/-- The quality of a cycle with a usable probe (R32). -/
def cycleQuality (grade : Quality) (tilt : Tilt) (isSettled : Bool) : Quality :=
  Quality.worse grade
    (Quality.worse (if tilt.degrades then .degraded else .good) (if isSettled then .good else .moving))

/-- A cycle with a usable probe: stages 5 to 9 (R28 to R38). -/
def gaugeUsable (e : TankEntry) (tilt : Tilt) (count : Nat) (keep : TankKeep) (c : Combined)
    (statuses : List ProbeStatus) : TankKeep × GaugeRec :=
  let h := clampHeight e c.h
  let calm := settled count e.settleS
  let f := filterHeight keep calm h
  let history := if keep.reinit then [] else keep.history
  let v := e.strapAt f
  let residue := residueHeight e tilt
  let u := usableVolume e v residue
  let rate := drawRate history v
  (⟨some f, some v, some u, extendHistory history v, false⟩,
   { enabled := true
     h := some h
     f := some f
     v := some v
     residue := some residue
     u := some u
     rate := rate
     timeToEmpty := timeToEmpty rate u
     quality := cycleQuality c.grade tilt calm
     overTop := e.lastPoint.height < f
     overRange := c.overRange
     uncovered := f < residue
     probes := statuses })

/-- A cycle without a usable probe (R39). It publishes the last F, V and U kept. After an apply completes these may have
been formed under the old profile, for the filters still wait to be reinitialised: the model's choice (log entry
43). -/
def gaugeUnusable (keep : TankKeep) (statuses : List ProbeStatus) : TankKeep × GaugeRec :=
  ({ keep with reinit := true },
   { GaugeRec.notComputed with
     enabled := true, f := keep.f, v := keep.v, u := keep.u, probes := statuses })

/-- One tank's cycle (R18, R39, R41). A tank that is not computed loses its F, V and history here, at a cycle, and not
on entering LOADING: the model's choice (log entry 43). -/
def gaugeTank (s : State) (tilt : Tilt) (count : Nat) (t : Tank) : TankKeep × GaugeRec :=
  match s.tankEntry t with
  | none => (.fresh, .notComputed)
  | some e =>
    let ps := fittedProbes s t e tilt
    match combine e.spreadLimit ps with
    | some c => gaugeUsable e tilt count (s.tgu.keeps.get t) c (probeStatuses ps)
    | none => gaugeUnusable (s.tgu.keeps.get t) (probeStatuses ps)

/-- One gauge cycle (R18, R19, R41). -/
def tguCycle (s : State) : Tgu :=
  let count := stillCountAfter s.isu.pub.roadStill s.tgu.stillCount
  let tilt := match s.pfu.inUse with
    | some _ => readTilt s
    | none => ⟨0, 0, .none, .none, .no⟩
  let t0 := gaugeTank s tilt count .t0
  let t1 := gaugeTank s tilt count .t1
  let t2 := gaugeTank s tilt count .t2
  let t3 := gaugeTank s tilt count .t3
  { gaugeTimer := s.tgu.gaugeTimer.again gaugePeriod
    stillCount := count
    keeps := ⟨t0.1, t1.1, t2.1, t3.1⟩
    gauges := ⟨t0.2, t1.2, t2.2, t3.2⟩
    tilt := tilt }

/-- The TANK_QUALITY notice of a tank whose published quality has changed (R40, R191). -/
def qualityNews (before after : PerTank GaugeRec) (t : Tank) : List News :=
  let a := before.get t
  let b := after.get t
  if a.quality = b.quality then []
  else [⟨.tankQuality, byte (tankCode t),
    [byte (qualityCode a.quality), byte (qualityCode b.quality)] ++ opt16u b.f ++ opt16u b.v⟩]

/-- What a gauge cycle hands over (R19, R40). The order of its TANK_QUALITY notices, T0 to T3, is the model's
choice (log entry 32). -/
def tguCycleOut (s : State) : Out :=
  let after := (tguCycle s).gauges
  { news := ([Tank.t0, .t1, .t2, .t3].map (qualityNews s.tgu.gauges after)).flatten
    events := toBlocks [.lbu, .ppu, .lku, .drc] .gauges }

/-- The Tank Gauge Unit takes a change of the configuration state: at the end of a load and at the
completion of an apply every filter waits to be reinitialised (R31, R42). No change of state discards what a tank
keeps; that this waits for a cycle is the model's choice (log entry 43). -/
def tguConf (s : State) (after : Conf) : Tgu :=
  match after with
  | .configured =>
    let k := s.tgu.keeps
    { s.tgu with
      keeps := ⟨{ k.t0 with reinit := true }, { k.t1 with reinit := true },
        { k.t2 with reinit := true }, { k.t3 with reinit := true }⟩ }
  | _ => s.tgu

end Sys2Proof.Machine
end

