-- ==== Sys2Proof/Machine/Bands.lean ====
section
/-! DEFINITION. The Level Band Unit (R44 to R62): level bands and the refill valve of T0. -/

namespace Sys2Proof.Machine

/-! ## Bands -/

/-- The band whose range contains a usable volume (R47). -/
def bandAt (e : TankEntry) (u : Int) : Band :=
  if u < e.b1 then .empty
  else if u < e.b2 then .reserve
  else if u < e.b3 then .low
  else if u < e.b4 then .normal
  else .full

/-- The lower boundary of a band above EMPTY. -/
def lowerBound (e : TankEntry) : Band → Option Int
  | .reserve => some e.b1
  | .low => some e.b2
  | .normal => some e.b3
  | .full => some e.b4
  | _ => none

/-- The upper boundary of a band below FULL. -/
def upperBound (e : TankEntry) : Band → Option Int
  | .empty => some e.b1
  | .reserve => some e.b2
  | .low => some e.b3
  | .normal => some e.b4
  | _ => none

def Band.down : Band → Band
  | .reserve => .empty
  | .low => .reserve
  | .normal => .low
  | .full => .normal
  | b => b

def Band.up : Band → Band
  | .empty => .reserve
  | .reserve => .low
  | .low => .normal
  | .normal => .full
  | b => b

/-- The direction rule (R48). -/
def mayRise (rate : Option Int) (roadStill : Bool) : Bool :=
  match rate with
  | some r => 0 ≤ r
  | none => roadStill

/-- The move the present evidence points to (R48). -/
def bandCondition (e : TankEntry) (roadStill : Bool) (b : Band) (u : Int) (rate : Option Int) : Candidate :=
  let falls := match lowerBound e b with
    | some low => decide (u < low)
    | none => false
  let rises := match upperBound e b with
    | some high => decide (high + e.hysteresis ≤ u) && mayRise rate roadStill
    | none => false
  if falls then .fall else if rises then .rise else .none

/-- R49. -/
def persistLimit : Quality → Nat
  | .moving => 20
  | _ => 2

/-- One publication's evidence taken by a known band (R49). -/
def moveBand (c : Candidate) (quality : Quality) (b : BandRec) : BandRec :=
  let n := if b.candidate = c then b.persist + 1 else 1
  match c with
  | .none => { b with candidate := .none, persist := 0 }
  | .fall =>
    if persistLimit quality ≤ n then ⟨b.band.down, .none, 0, .falling⟩
    else { b with candidate := .fall, persist := n }
  | .rise =>
    if persistLimit quality ≤ n then ⟨b.band.up, .none, 0, .rising⟩
    else { b with candidate := .rise, persist := n }

/-- A band record at a gauge publication (R46 to R49). -/
def bandStep (entry : Option TankEntry) (roadStill : Bool) (g : GaugeRec) (b : BandRec) : BandRec :=
  match entry, g.u with
  | some e, some u =>
    if g.quality = .unknown then .lost
    else if b.band = .unknown then ⟨bandAt e u, .none, 0, .initial⟩
    else moveBand (bandCondition e roadStill b.band u g.rate) g.quality b
  | _, _ => .lost

def lbuBands (s : State) : PerTank BandRec :=
  let step (t : Tank) :=
    bandStep (s.tankEntry t) s.isu.pub.roadStill (s.tgu.gauges.get t) (s.lbu.bands.get t)
  ⟨step .t0, step .t1, step .t2, step .t3⟩

def allTanks : List Tank := [.t0, .t1, .t2, .t3]

/-- The BAND_CHANGE notice of a tank (R50, R191). -/
def bandNews (s : State) (after : PerTank BandRec) (t : Tank) : List News :=
  let a := s.lbu.bands.get t
  let b := after.get t
  let g := s.tgu.gauges.get t
  if a.band = b.band then []
  else [⟨.bandChange, byte (tankCode t),
    [byte (bandCode a.band), byte (bandCode b.band), byte (directionCode b.direction)] ++ opt16u g.u ++
    [byte (qualityCode g.quality)]⟩]

/-- The BAND record of a tank (R51). -/
def bandRecord (s : State) (after : PerTank BandRec) (t : Tank) : List RecordBody :=
  let a := s.lbu.bands.get t
  let b := after.get t
  let g := s.tgu.gauges.get t
  let low (x : Band) : Bool := x = .empty || x = .reserve
  if a.band ≠ b.band ∧ (low b.band || (low a.band && b.band != .unknown)) then
    [.band t a.band b.band b.direction g.u g.quality]
  else []

/-- Some band differs. -/
def bandsChanged (a b : PerTank BandRec) : Bool :=
  allTanks.any fun t => (a.get t).band != (b.get t).band

/-! ## The refill valve -/

/-- The settings in use (R52). -/
def State.refill (s : State) : Option RefillEntry := s.pfu.inUse.map (·.refill)

/-- The fill pressure, when its channel is not UNKNOWN (R54). -/
def State.fillPressure (s : State) : Option Int :=
  match s.refill with
  | some r => s.knownValue (.intakePressure r.pump)
  | none => none

/-- The fill pressure is at least fill_min_kPa (R54, R57). -/
def State.fillPressureGood (s : State) : Bool :=
  match s.refill, s.fillPressure with
  | some r, some p => decide (r.minKPa ≤ p)
  | _, _ => false

/-- The opening conditions other than the reclose timer, with T0's band given (R54). -/
def mayOpen (s : State) (band : Band) : Bool :=
  s.pfu.conf = .configured && ((s.refill).map (·.enabled)).getD false
  && s.level .hydrantIntakeOpen && s.fillPressureGood
  && band != .unknown && band != .full && !s.effective .tankFill

/-- R54. -/
def openValve (s : State) (v : Valve) : Valve :=
  let noRise := ((s.refill).map (·.noRiseS)).getD 0
  { v with
    state := .opened, cause := some .opened, do6 := true
    lowPressure := .stopped, noRise := .started s.now (sec noRise) }

/-- R55, R56. -/
def closeValve (s : State) (cause : FillCause) (v : Valve) : Valve :=
  { v with
    state := .waiting, cause := some cause, do6 := false
    noRise := .stopped, lowPressure := .stopped, reclose := .started s.now recloseTime }

/-- R59. -/
def leaveFaulted (cause : FillCause) (v : Valve) : Valve :=
  { v with state := .closed, cause := some cause, do6 := false }

/-- The opening test of CLOSED (R54). -/
def openIfClosed (s : State) (band : Band) (v : Valve) : Valve :=
  if v.state = .closed ∧ !v.reclose.isRunning ∧ mayOpen s band then openValve s v else v

/-- The valve at a gauge publication, the bands being up to date (R54, R56, R58). -/
def valveGauges (s : State) (bands : PerTank BandRec) (v : Valve) : Valve :=
  let g := s.tgu.gauges.t0
  match v.state with
  | .opened =>
    if bands.t0.band = .full then closeValve s .full v
    else if g.quality = .unknown then closeValve s .gaugeUnknown v
    else match g.rate, s.refill with
      | some r, some e =>
        if e.riseMinLpm ≤ r then { v with noRise := .started s.now (sec e.noRiseS) } else v
      | _, _ => v
  | _ => openIfClosed s bands.t0.band v

/-- The valve at an ISU publication (R54, R56, R57, R59). -/
def valveInputs (s : State) (v : Valve) : Valve :=
  match v.state with
  | .opened =>
    if !s.level .hydrantIntakeOpen then closeValve s .hydrantClosed v
    else if s.fillPressureGood then { v with lowPressure := .stopped }
    else { v with lowPressure := v.lowPressure.startIfStopped s.now lowPressureTime }
  | .faulted => if s.level .hydrantIntakeOpen then v else leaveFaulted .hydrantClosed v
  | _ => openIfClosed s s.lbu.bands.t0.band v

/-- The valve at an LKU publication (R54, R56). -/
def valveLockouts (s : State) (v : Valve) : Valve :=
  if v.state = .opened ∧ s.effective .tankFill then closeValve s .lockedOut v
  else openIfClosed s s.lbu.bands.t0.band v

/-- The reclose timer expires (R54, R55). -/
def valveRecloseExpired (s : State) (v : Valve) : Valve :=
  let v := { v with reclose := .stopped }
  match v.state with
  | .waiting =>
    if mayOpen s s.lbu.bands.t0.band then openValve s v
    else { v with state := .closed, cause := some .gapEnded }
  | _ => openIfClosed s s.lbu.bands.t0.band v

/-- The low-pressure timer expires (R56, R57). -/
def valveLowPressureExpired (s : State) (v : Valve) : Valve :=
  let v := { v with lowPressure := .stopped }
  if v.state = .opened then closeValve s .lowPressure v else v

/-- The no-rise timer expires (R58). -/
def valveNoRiseExpired (s : State) (v : Valve) : Valve :=
  let v := { v with noRise := .stopped }
  if v.state = .opened then
    { v with
      state := .faulted, cause := some .noRise, do6 := false
      lowPressure := .stopped, reclose := .started s.now recloseTime }
  else v

/-- The valve at a change of the configuration state (R60). -/
def valveConf (s : State) (after : Conf) (v : Valve) : Valve :=
  match after with
  | .applying => if v.state = .opened then closeValve s .profile v else v
  | .configured => v
  | _ =>
    if v.state = .closed then { v with reclose := .stopped, lowPressure := .stopped, noRise := .stopped }
    else ⟨.closed, some .profile, false, .stopped, .stopped, .stopped⟩

/-- The bands at a change of the configuration state (R46, R60). -/
def bandsConf (before after : Conf) (b : PerTank BandRec) : PerTank BandRec :=
  match before, after with
  | .applying, .configured => ⟨.lost, .lost, .lost, .lost⟩
  | _, .loading => ⟨.lost, .lost, .lost, .lost⟩
  | _, .unconfigured => ⟨.lost, .lost, .lost, .lost⟩
  | _, _ => b

/-! ## The end of an LBU event -/

/-- The FILL notice of a change of the valve state (R61, R191). The fill pressure is the value published,
whatever its health, and absent where no refill entry is in use any more, which is the model's choice (log entry
33). -/
def fillNews (s : State) (after : Valve) : List News :=
  if s.lbu.valve.state = after.state then []
  else
    let pressure := match s.refill with
      | some r => (s.reading (.intakePressure r.pump)).2
      | none => none
    [⟨.fill, opt8 (after.cause.map fillCauseCode),
      [byte (valveCode s.lbu.valve.state), byte (valveCode after.state)] ++ opt16u s.tgu.gauges.t0.u ++
      opt16s pressure⟩]

/-- The FILL_FAULT cause follows FAULTED (R58, R59, R60). -/
def fillFaultOps (before after : ValveState) : List (SetOp AlarmCause) :=
  if before ≠ .faulted ∧ after = .faulted then [.post .fillFault]
  else if before = .faulted ∧ after ≠ .faulted then [.withdraw .fillFault]
  else []

/-- What an LBU event hands over: notices, the alarm cause, records, and its publication (R44, R50, R51,
R53, R61). That its BAND_CHANGE notices go from T0 to T3, and before its FILL notice, is the model's choice (log entry
44). -/
def lbuOut (s : State) (after : Lbu) (records : List RecordBody) : Out :=
  let bandMoved := bandsChanged s.lbu.bands after.bands
  let valveMoved := s.lbu.valve.state != after.valve.state
  let leftOpen := s.lbu.valve.state = .opened && valveMoved
  { news := (allTanks.map (bandNews s after.bands)).flatten ++ fillNews s after.valve
    events :=
      unlessEmpty .ppu .alarms (fillFaultOps s.lbu.valve.state after.valve.state) ++
      unlessEmpty .drc .records records ++
      (if bandMoved || valveMoved then
        toBlocks [.ppu, .lku, .drc] (.levels bandMoved valveMoved leftOpen) else []) }

/-- The Level Band Unit takes an event. -/
def State.lbuTakes (s : State) (after : Lbu) (records : List RecordBody) : State :=
  { s with lbu := after }.emit (lbuOut s after records)

def State.lbuValve (s : State) (v : Valve) : State := s.lbuTakes { s.lbu with valve := v } []

/-- A gauge publication (R44). While LOADING or UNCONFIGURED no tank is enabled and every band stays
UNKNOWN (R46). That its BAND records go from T0 to T3 is the model's choice (log entry 44). -/
def State.lbuGauges (s : State) : State :=
  let bands := lbuBands s
  s.lbuTakes ⟨bands, valveGauges s bands s.lbu.valve⟩ ((allTanks.map (bandRecord s bands)).flatten)

def State.lbuConf (s : State) (before after : Conf) : State :=
  s.lbuTakes ⟨bandsConf before after s.lbu.bands, valveConf s after s.lbu.valve⟩ []

/-- An event handed to the Level Band Unit. -/
def State.lbuEvent (s : State) : Event → State
  | .inputs => s.lbuValve (valveInputs s s.lbu.valve)
  | .gauges => s.lbuGauges
  | .lockouts changed =>
    if changed.contains .tankFill then s.lbuValve (valveLockouts s s.lbu.valve) else s
  | .conf before after => s.lbuConf before after
  | _ => s

end Sys2Proof.Machine
end

