-- ==== Sys2Proof/Machine/Drives.lean ====
section
/-! DEFINITION. The Drive Engagement Unit (R63 to R94): the two drives and the shift slot they share. -/

namespace Sys2Proof.Machine

/-- A DEU event under way: the unit, and what it will hand its neighbours. `status` answers a request. -/
structure DeuWork where
  deu : Deu
  cuts : List (SetOp Cut) := []
  alarms : List (SetOp AlarmCause) := []
  records : List RecordBody := []
  passed : List Drive := []
  status : Status := .ok
  deriving DecidableEq, Repr

def DeuWork.drive (w : DeuWork) (d : Drive) : DriveRec := w.deu.drives.get d

def DeuWork.setRec (w : DeuWork) (d : Drive) (r : DriveRec) : DeuWork :=
  { w with deu := { w.deu with drives := w.deu.drives.set d r } }

/-! ## Inputs -/

/-- The position input that confirms a drive's shift (R72, R73). -/
def State.pumpPosition (s : State) : Drive → Bool
  | .main => s.isu.pub.split = .pump
  | .aux => s.level .auxPtoFeedback

/-- The position input that confirms a drive's return (R78, R79). -/
def State.roadPosition (s : State) : Drive → Bool
  | .main => s.isu.pub.split = .road
  | .aux => !s.level .auxPtoFeedback

/-- The position input as a DRIVE_FAULT record carries it (R92). -/
def State.positionCode (s : State) : Drive → Nat
  | .main => splitCode s.isu.pub.split
  | .aux => if s.level .auxPtoFeedback then 1 else 0

def State.confirmTime (s : State) : Drive → Micros
  | .main => sec s.driveParams.confirmMainS
  | .aux => ms (100 * s.driveParams.confirmAuxTenths)

/-- The engine is at idle for a shift (R71, R77). -/
def State.atIdle (s : State) : Bool := s.engineAtMost s.driveParams.shiftMaxRpm

def State.supplyNormal (s : State) : Bool := s.pfu.supply = .normal

/-- The start-guard target of a drive (R117). -/
def startGuard : Drive → Target
  | .main => .mainEngage
  | .aux => .auxEngage

/-! ## Timers and the waiting list -/

/-- The purposes a droop suspends (R88). -/
def suspendable : SeqPurpose → Bool
  | .confirm => true
  | .retryOff => true
  | .restore => true
  | _ => false

/-- A sequence timer started; one that a droop suspends starts suspended during a droop (R88). -/
def startSeq (s : State) (p : SeqPurpose) (duration : Micros) (r : DriveRec) : DriveRec :=
  { r with
    seqPurpose := some p
    seq := if suspendable p && !s.supplyNormal then .suspended duration else .started s.now duration }

def stopSeq (r : DriveRec) : DriveRec := { r with seqPurpose := none, seq := .stopped }

/-- The monitor timers of a drive stopped (R82, R85, R86, R87). -/
def stopMonitors (r : DriveRec) : DriveRec :=
  { r with position := .stopped, slip := .stopped, stall := .stopped, overspeed := .stopped }

/-- A drive joins the waiting list (R67). -/
def join (s : State) (d : Drive) (w : DeuWork) : DeuWork :=
  let w := w.setRec d { w.drive d with joined := some s.now }
  if w.deu.waiting.contains d then w
  else { w with deu := { w.deu with waiting := w.deu.waiting ++ [d] } }

/-- A drive leaves the waiting list (R67). -/
def leave (d : Drive) (w : DeuWork) : DeuWork :=
  let w := w.setRec d { w.drive d with joined := none }
  { w with deu := { w.deu with waiting := w.deu.waiting.filter fun x => x != d } }

/-- The slot is freed by the drive that holds it (R68). -/
def freeSlot (d : Drive) (w : DeuWork) : DeuWork :=
  if w.deu.holder = some d then { w with deu := { w.deu with holder := none } } else w

/-- DO2 commanded for a FAULTED AUX; in every other state its level follows the record (R69). -/
def clutch (on : Bool) (w : DeuWork) : DeuWork := { w with deu := { w.deu with do2 := on } }

/-! ## Demands -/

/-- Withdraws the ROLL_OVERSPEED and ROLL_WITHOUT_SELECT that AUX holds; MAIN holds neither (R84, R87, R90). -/
def dropRollDemands (d : Drive) (w : DeuWork) : DeuWork :=
  let r := w.drive d
  let w := if d = .aux ∧ r.overspeedPosted then
      { w with
        cuts := w.cuts ++ [.withdraw .rollOverspeed]
        alarms := w.alarms ++ [.withdraw .rollOverspeed] } else w
  let w := if d = .aux ∧ r.selectPosted then
      { w with alarms := w.alarms ++ [.withdraw .rollWithoutSelect] } else w
  w.setRec d { r with overspeed := .stopped, overspeedPosted := false, selectPosted := false }

/-- Posts DRIVE_RELEASE unless it is posted (R77, R80). -/
def postRelease (d : Drive) (w : DeuWork) : DeuWork :=
  let r := w.drive d
  if r.releaseCut then w
  else { w.setRec d { r with releaseCut := true } with cuts := w.cuts ++ [.post (.driveRelease d)] }

/-- Withdraws what a drive holds when it reaches DISENGAGED (R78, R79, R90). -/
def dropReleaseDemands (d : Drive) (w : DeuWork) : DeuWork :=
  let r := w.drive d
  let w := if r.releaseCut then
      { w with cuts := w.cuts ++ [.withdraw (.driveRelease d)] } else w
  { w.setRec d { r with releaseCut := false } with
    alarms := w.alarms ++ [.withdraw (.driveFault d)] }

/-! ## Entries into states -/

/-- A drive enters FAULTED (R87); `restore` keeps the slot and drives MAIN back to road (R75). -/
def enterFaulted (s : State) (d : Drive) (k : FaultKind) (restore : Bool) (w : DeuWork) : DeuWork :=
  let before := (w.drive d).state
  let w := dropRollDemands d (leave d w)
  let r := stopMonitors (stopSeq (w.drive d))
  let r := { r with
    state := .faulted, cause := some (.fault k), fault := some k, pendingRelease := .none
    phase := if restore then .restore else .none }
  let r := if restore then startSeq s .restore (s.confirmTime d) r else r
  let w := w.setRec d r
  let keepsClutch : Bool := (before.turning && (k = .positionLost || k = .slip || k = .noIdle))
  let w := if d = .aux ∧ !keepsClutch then clutch false w else w
  let w := if restore then w else freeSlot d w
  { w with
    alarms := w.alarms ++ [.post (.driveFault d)]
    records := w.records ++ [.driveFault d k before (s.positionCode d)] }

/-- A drive enters DISENGAGED without having been driven (R71, R76). -/
def enterIdle (d : Drive) (c : DriveCause) (w : DeuWork) : DeuWork :=
  let w := leave d w
  w.setRec d { stopSeq (w.drive d) with state := .disengaged, cause := some c, fault := none, phase := .none }

/-- A drive reaches DISENGAGED with cause RELEASED (R76, R78, R79). Motion armed stays as it is, as it does in
FAULTED and RELEASING: the model's choice (log entry 64). -/
def enterReleased (d : Drive) (w : DeuWork) : DeuWork :=
  let fromFaulted : Bool := (w.drive d).state = .faulted
  let w := dropReleaseDemands d (freeSlot d (enterIdle d .released w))
  { w with records := w.records ++ [.release d fromFaulted] }

/-- ENGAGED, or ROLLING for an AUX on a vehicle that moves (R65, R74). -/
def turningState (s : State) : Drive → DriveState
  | .main => .engaged
  | .aux => if s.isu.pub.roadStill then .engaged else .rolling

/-- A publication confirms a shift (R74). Motion armed is set for either drive; that AUX has the field is the model's
choice (log entry 47). -/
def confirmShift (s : State) (d : Drive) (w : DeuWork) : DeuWork :=
  let r := stopSeq (w.drive d)
  let w := w.setRec d { r with
    state := turningState s d, cause := some .confirmed, phase := .none, motionArmed := true }
  let w := freeSlot d w
  { w with
    records := w.records ++ [.engage d (s.pulse .engine).speed (s.now - r.accepted)] }

/-- A drive that holds the slot enters SHIFTING (R71 to R73). -/
def enterShifting (s : State) (d : Drive) (w : DeuWork) : DeuWork :=
  let w := leave d w
  let r := startSeq s .confirm (s.confirmTime d) (w.drive d)
  let w := w.setRec d { r with
    state := .shifting, cause := some .shiftStarted, retryUsed := false, phase := .driving }
  { w with deu := { w.deu with holder := some d }, passed := w.passed ++ [d] }

/-- A drive that holds the slot enters RELEASING (R78 to R80). Two things are the model's choice for AUX: its phase is
DRIVING throughout, as its unshift has no retry off-time (log entry 25), and retry_used is set to no, which R78 and R80
give for MAIN and R79 does not list (log entry 67). -/
def enterReleasing (s : State) (d : Drive) (w : DeuWork) : DeuWork :=
  let w := leave d w
  let r := startSeq s .confirm (s.confirmTime d) (stopMonitors (w.drive d))
  let w := dropRollDemands d (w.setRec d { r with
    state := .releasing, cause := some .releaseStarted, fault := none, retryUsed := false
    phase := .driving, pendingRelease := .none })
  { w with deu := { w.deu with holder := some d } }

/-- The release sequence begins (R77). -/
def beginRelease (s : State) (d : Drive) (w : DeuWork) : DeuWork :=
  let w := join s d (postRelease d w)
  w.setRec d { startSeq s .idle releaseIdle (w.drive d) with
    cause := some .releasePending, pendingRelease := .idleWait }

/-! ## The shift slot -/

/-- Every permissive but the free slot and the supply (R71). -/
def permissives (s : State) (d : Drive) : Bool :=
  (d = .aux || s.level .parkBrake) && s.level .transNeutral && s.isu.pub.roadStill && s.atIdle

/-- A waiting member is ready (R67). -/
def ready (s : State) (d : Drive) (r : DriveRec) : Bool :=
  if r.state = .preparing then permissives s d && s.supplyNormal else r.pendingRelease = .slotWait

/-- The slot is offered to the members in order (R67, R71). -/
def offer (s : State) : List Drive → DeuWork → DeuWork
  | [], w => w
  | d :: rest, w =>
    if w.deu.holder.isSome || !s.supplyNormal then w
    else if !ready s d (w.drive d) then offer s rest w
    else if (w.drive d).state = .preparing then
      if s.effective (startGuard d) then offer s rest (enterIdle d .lockedOut w)
      else enterShifting s d w
    else enterReleasing s d w

/-- A drive waiting for idle is found at idle (R77). -/
def foundIdle (s : State) (d : Drive) (w : DeuWork) : DeuWork :=
  let r := w.drive d
  if r.pendingRelease = .idleWait ∧ s.atIdle then
    w.setRec d { stopSeq r with pendingRelease := .slotWait }
  else w

/-! ## Adoption (R89) -/

def adoptionDue (s : State) : Bool := !s.deu.adopted && s.pfu.conf != .loading && s.isu.scanned

def adoptMain (s : State) (w : DeuWork) : DeuWork :=
  match s.isu.pub.split with
  | .pump =>
    w.setRec .main { w.drive .main with state := .engaged, cause := some .adopted, motionArmed := false }
  | .road => w.setRec .main { w.drive .main with state := .disengaged, cause := some .adopted }
  | _ => enterFaulted s .main .positionUnknown false w

def adoptAux (s : State) (w : DeuWork) : DeuWork :=
  if s.level .auxPtoFeedback then enterFaulted s .aux .adoptedUnpowered false w
  else w.setRec .aux { w.drive .aux with state := .disengaged, cause := some .adopted }

/-- Both drives adopt a state when adoption is due. -/
def adopt (s : State) (w : DeuWork) : DeuWork :=
  if adoptionDue s then
    let w := adoptAux s (adoptMain s w)
    { w with deu := { w.deu with adopted := true } }
  else w

/-! ## Monitors -/

/-- The motion monitor (R83). -/
def motionMonitor (s : State) (w : DeuWork) : DeuWork :=
  let r := w.drive .main
  let still := s.isu.pub.roadStill
  if (s.pulse .road).state ≠ .stopped ∨ (r.motionArmed ∧ !still) then
    enterFaulted s .main .motion false w
  else if still then w.setRec .main { r with motionArmed := true } else w

/-- The position monitor (R82). -/
def positionMonitor (s : State) (d : Drive) (r : DriveRec) : DriveRec :=
  { r with
    position := if s.pumpPosition d then .stopped
      else r.position.startIfStopped s.now positionLossTime }

/-- The slip in percent, when the expected pump speed is high enough to judge (R85). -/
def slipPercent (s : State) (d : Drive) : Option Int :=
  match (s.pulse .engine).speed, s.driveParams.ratio.get d, (s.pulse (pumpPulse d)).speed with
  | some rpm, some ratio, some pump =>
    let expected := divNearest (rpm * ratio) 1000
    if 300 ≤ expected then some (divTrunc (Int.natAbs (pump - expected) * 100) expected) else none
  | _, _, _ => none

/-- The slip monitor (R85). -/
def slipMonitor (s : State) (d : Drive) (r : DriveRec) : DriveRec :=
  let slipping : Bool := match slipPercent s d with
    | some x => s.pfu.conf = .configured && decide (s.driveParams.slipTol < x)
    | none => false
  { r with slip := if slipping then r.slip.startIfStopped s.now slipTime else .stopped }

/-- The stall monitor (R86). -/
def stallMonitor (s : State) (d : Drive) (r : DriveRec) : DriveRec :=
  let fast : Bool := match (s.pulse .engine).speed with
    | some v => decide (600 < v)
    | none => false
  let stalled := (s.pulse (pumpPulse d)).state = .stopped && (s.pulse .engine).state = .running && fast
  { r with stall := if stalled then r.stall.startIfStopped s.now stallTime else .stopped }

/-- AUX moves between ENGAGED and ROLLING with the vehicle (R65, R84). -/
def moveRolling (s : State) (w : DeuWork) : DeuWork :=
  let r := w.drive .aux
  match r.state, s.isu.pub.roadStill with
  | .engaged, false => w.setRec .aux { r with state := .rolling, cause := some .vehicleMoving }
  | .rolling, true =>
    let w := dropRollDemands .aux w
    w.setRec .aux { w.drive .aux with state := .engaged, cause := some .vehicleStill }
  | _, _ => w

/-- The overspeed part of the rolling monitor (R84). -/
def overspeedMonitor (s : State) (w : DeuWork) : DeuWork :=
  let r := w.drive .aux
  match (s.pulse .road).speed with
  | none => w
  | some v =>
    let limit := s.driveParams.rollLimit
    if r.overspeedPosted then
      if v + 20 < limit then
        { w.setRec .aux { r with overspeedPosted := false } with
          cuts := w.cuts ++ [.withdraw .rollOverspeed]
          alarms := w.alarms ++ [.withdraw .rollOverspeed] }
      else w
    else if limit < v then
      w.setRec .aux { r with overspeed := r.overspeed.startIfStopped s.now overspeedTime }
    else w.setRec .aux { r with overspeed := .stopped }

/-- The select part of the rolling monitor (R84). -/
def selectMonitor (s : State) (w : DeuWork) : DeuWork :=
  let r := w.drive .aux
  if s.level .pumpRollSelect then
    if r.selectPosted then
      { w.setRec .aux { r with selectPosted := false } with
        alarms := w.alarms ++ [.withdraw .rollWithoutSelect] }
    else w
  else if r.selectPosted then w
  else { w.setRec .aux { r with selectPosted := true } with
    alarms := w.alarms ++ [.post .rollWithoutSelect] }

/-- The monitors common to both drives. -/
def commonMonitors (s : State) (d : Drive) (w : DeuWork) : DeuWork :=
  w.setRec d (stallMonitor s d (slipMonitor s d (positionMonitor s d (w.drive d))))

/-- The monitors of a drive that turns its pump (R82 to R86). An AUX that this publication moves to ROLLING is put to
the overspeed and select tests at once: the rules do not say whether they wait for the next publication, and this is
the model's choice (log entry 48). -/
def monitors (s : State) (d : Drive) (w : DeuWork) : DeuWork :=
  match d with
  | .main =>
    let w := motionMonitor s w
    if (w.drive .main).state = .engaged then commonMonitors s .main w else w
  | .aux =>
    let w := moveRolling s w
    let w := if (w.drive .aux).state = .rolling then selectMonitor s (overspeedMonitor s w) else w
    commonMonitors s .aux w

/-! ## Event bodies -/

/-- The end of MAIN's road restore (R75). -/
def endRestore (w : DeuWork) : DeuWork :=
  freeSlot .main (w.setRec .main { stopSeq (w.drive .main) with phase := .none })

/-- A drive takes an ISU publication. -/
def driveInputs (s : State) (d : Drive) (w : DeuWork) : DeuWork :=
  let r := w.drive d
  match r.state with
  | .shifting => if s.pumpPosition d then confirmShift s d w else w
  | .releasing => if s.roadPosition d then enterReleased d w else w
  | .engaged => monitors s d w
  | .rolling => monitors s d w
  | .faulted => if r.phase = .restore ∧ s.roadPosition d then endRestore w else w
  | _ => w

def bodyInputs (s : State) (w : DeuWork) : DeuWork := driveInputs s .aux (driveInputs s .main w)

/-- The timers a droop suspends follow the supply state (R88). -/
def bodySupply (s : State) (w : DeuWork) : DeuWork :=
  let follow (r : DriveRec) : DriveRec :=
    if (r.seqPurpose.map suspendable).getD false then
      { r with seq := if s.supplyNormal then r.seq.resume s.now else r.seq.suspend s.now }
    else r
  let w := w.setRec .main (follow (w.drive .main))
  w.setRec .aux (follow (w.drive .aux))

/-- The permissive timer expires (R71). -/
def bodyPermissiveExpired (d : Drive) (w : DeuWork) : DeuWork :=
  if (w.drive d).state = .preparing then enterIdle d .permissiveTimeout w else w

/-- The retry of a shift or of MAIN's unshift: the solenoid off for the off-time (R72, R73, R78). -/
def startOffTime (s : State) (d : Drive) (w : DeuWork) : DeuWork :=
  w.setRec d { startSeq s .retryOff retryOffTime (w.drive d) with phase := .off, retryUsed := true }

/-- A CONFIRM timer expires (R72, R73, R75, R78, R79). -/
def bodyConfirmExpired (s : State) (d : Drive) (w : DeuWork) : DeuWork :=
  let r := w.drive d
  match r.state, d, r.retryUsed with
  | .shifting, _, false => startOffTime s d w
  | .shifting, .main, true => enterFaulted s .main .noConfirm true w
  | .shifting, .aux, true => enterFaulted s .aux .noConfirm false w
  | .releasing, .main, false => startOffTime s .main w
  | .releasing, .main, true => enterFaulted s .main .noConfirm false w
  | .releasing, .aux, _ => enterFaulted s .aux .noConfirm false w
  | _, _, _ => w

/-- The retry off-time ends (R72, R73, R78). -/
def bodyRetryOffExpired (s : State) (d : Drive) (w : DeuWork) : DeuWork :=
  w.setRec d { startSeq s .confirm (s.confirmTime d) (w.drive d) with phase := .driving }

/-- The overspeed timer expires (R84). -/
def bodyOverspeedExpired (w : DeuWork) : DeuWork :=
  let r := { w.drive .aux with overspeed := .stopped }
  if r.overspeedPosted then w.setRec .aux r
  else { w.setRec .aux { r with overspeedPosted := true } with
    cuts := w.cuts ++ [.post .rollOverspeed]
    alarms := w.alarms ++ [.post .rollOverspeed] }

/-- ENGAGE DRIVE (R70). -/
def bodyEngage (s : State) (d : Drive) (w : DeuWork) : DeuWork :=
  match s.pfu.conf with
  | .loading => { w with status := .notConfigured }
  | .unconfigured => { w with status := .notConfigured }
  | .applying => { w with status := .busy }
  | .configured =>
    if !w.deu.adopted then { w with status := .busy }
    else if (w.drive d).state ≠ .disengaged then { w with status := .refused .state }
    else match s.lku.effect (startGuard d) with
      | some n => { w with status := .refused (.lockedOut n) }
      | none =>
        let w := join s d w
        { w.setRec d { startSeq s .permissive (sec s.driveParams.permWaitS) (w.drive d) with
            state := .preparing, cause := some .requested, retryUsed := false, accepted := s.now }
          with status := .accepted }

/-- A release taken by a drive that holds the slot (R80). -/
def releaseHolding (s : State) (d : Drive) (w : DeuWork) : DeuWork :=
  enterReleasing s d (postRelease d w)

/-- RELEASE DRIVE (R76). -/
def bodyRelease (s : State) (d : Drive) (w : DeuWork) : DeuWork :=
  let r := w.drive d
  if !w.deu.adopted then { w with status := .busy }
  else match r.state with
    | .disengaged => { w with status := .refused .state }
    | .preparing => { enterIdle d .cancelled w with status := .ok }
    | .shifting => { releaseHolding s d w with status := .accepted }
    | .releasing => { w with status := .refused .state }
    | .engaged | .rolling =>
      if r.pendingRelease = .none then { beginRelease s d w with status := .accepted }
      else { w with status := .refused .state }
    | .faulted =>
      if r.pendingRelease ≠ .none then { w with status := .refused .state }
      else if r.phase = .restore then { releaseHolding s d w with status := .accepted }
      else if s.roadPosition d ∧ (d = .main ∨ !w.deu.do2) then { enterReleased d w with status := .ok }
      else
        let w := if d = .aux then clutch false w else w
        { beginRelease s d w with status := .accepted }

/-! ## The end of a DEU event -/

/-- DO0 to DO2 as the records command them (R69); in FAULTED, DO2 keeps what R87 and R76 set. -/
def deuOutputs (u : Deu) : Deu :=
  let m := u.drives.main
  let a := u.drives.aux
  { u with
    do0 := m.state = .shifting && m.phase = .driving
    do1 := (m.state = .releasing && m.phase = .driving) || (m.state = .faulted && m.phase = .restore)
    do2 := (a.state = .shifting && a.phase = .driving) || a.state.turning || (a.state = .faulted && u.do2) }

/-- A DEU event: adoption first, then the body, then the idle test, the offer of the slot and the
outputs (R63, R67, R77, R89). -/
def deuRun (s : State) (body : DeuWork → DeuWork) : DeuWork :=
  let w := body (adopt s { deu := s.deu })
  let w := foundIdle s .aux (foundIdle s .main w)
  let w := offer s w.deu.waiting w
  { w with deu := deuOutputs w.deu }

/-- A record as it is published, less its timers and join time (R64). -/
def DriveRec.published (r : DriveRec) : DriveRec :=
  { r with
    seqPurpose := none, seq := .stopped, joined := none, position := .stopped, slip := .stopped
    stall := .stopped, overspeed := .stopped, selectPosted := false, accepted := 0 }

/-- The event changed what the unit publishes (R90). -/
def deuPublishes (a b : Deu) : Bool :=
  a.drives.main.published != b.drives.main.published ||
  a.drives.aux.published != b.drives.aux.published || a.holder != b.holder || a.adopted != b.adopted

/-- The DRIVE_STATE notice of a drive (R91, R191). -/
def driveNews (before after : Deu) (d : Drive) : List News :=
  let a := before.drives.get d
  let b := after.drives.get d
  if a.state = b.state ∧ a.fault = b.fault ∧ a.pendingRelease = b.pendingRelease ∧
      before.adopted = after.adopted then []
  else [⟨.driveState, byte (driveCode d),
    [byte (driveStateCode a.state), byte (driveStateCode b.state), opt8 (b.cause.map driveCauseCode),
      opt8 (b.fault.map faultCode), byte (pendingReleaseCode b.pendingRelease), 0#8]⟩]

/-- The drive a record of the DEU names. -/
def RecordBody.drive : RecordBody → Option Drive
  | .engage d _ _ => some d
  | .release d _ => some d
  | .driveFault d _ _ _ => some d
  | _ => none

/-- MAIN's records before AUX's, each drive's in the order made (R92). -/
def mainFirst (rs : List RecordBody) : List RecordBody :=
  rs.filter (fun r => r.drive ≠ some .aux) ++ rs.filter fun r => r.drive = some .aux

/-- The posts and withdrawals of one event less each post that a later withdrawal of its cause takes back, so that
their order in the event survives the owner's taking withdrawals first (R90, R107): a cause that a drive posts and
withdraws in one event is left withdrawn. DEDUCED (log entry 46). -/
def lastingOps : List (SetOp AlarmCause) → List (SetOp AlarmCause)
  | [] => []
  | .post c :: rest => if rest.contains (.withdraw c) then lastingOps rest else .post c :: lastingOps rest
  | .withdraw c :: rest => .withdraw c :: lastingOps rest

/-- What a DEU event hands over (R90 to R92, R125). Three things here are the model's choice: that MAIN's DRIVE_STATE
notice comes before AUX's (log entry 34); that the posts and withdrawals of one event go in the order the event makes
them, adoption, then MAIN, then AUX (log entry 45); and that an alarm cause posted and withdrawn in one event goes as
withdrawn alone (log entry 46). -/
def deuOut (before : Deu) (w : DeuWork) : Out where
  news := driveNews before w.deu .main ++ driveNews before w.deu .aux
  events :=
    unlessEmpty .tau .cuts w.cuts ++ unlessEmpty .ppu .alarms (lastingOps w.alarms) ++
    unlessEmpty .drc .records (mainFirst w.records) ++ w.passed.map (fun d => (.lku, .started d)) ++
    (if deuPublishes before w.deu then toBlocks [.lku, .tau, .ppu, .drc] .drives else [])

def State.deuCommit (s : State) (w : DeuWork) : State :=
  { s with deu := w.deu }.emit (deuOut s.deu w)

/-- The Drive Engagement Unit takes an event with the body given. -/
def State.deuTakes (s : State) (body : DeuWork → DeuWork) : State := s.deuCommit (deuRun s body)

/-- An event handed to the Drive Engagement Unit. -/
def State.deuEvent (s : State) : Event → State
  | .inputs => s.deuTakes (bodyInputs s)
  | .supply _ _ => s.deuTakes (bodySupply s)
  | .lockouts _ => s.deuTakes id
  | .conf _ _ => s.deuTakes id
  | _ => s

end Sys2Proof.Machine
end

