-- ==== Sys2Proof/Machine/Protection.lean ====
section
/-! DEFINITION. The Pump Protection Unit (R95 to R112): the watches, the alarm cause set and the horn. -/

namespace Sys2Proof.Machine

/-- A PPU event under way: the unit's watches and sources, the posts and withdrawals for its own alarm
set, and what it hands its neighbours. -/
structure PpuWork where
  ppu : Ppu
  ops : List (SetOp AlarmCause) := []
  cuts : List (SetOp Cut) := []
  news : List News := []
  records : List RecordBody := []
  deriving DecidableEq, Repr

def PpuWork.watch (w : PpuWork) (d : Drive) (k : Watch) : WatchRec := (w.ppu.watches.get d).get k

def PpuWork.setWatch (w : PpuWork) (d : Drive) (k : Watch) (r : WatchRec) : PpuWork :=
  { w with ppu := { w.ppu with watches := w.ppu.watches.set d ((w.ppu.watches.get d).set k r) } }

def bothDrives : List Drive := [.main, .aux]

def allWatches : List Watch := [.overheat, .overpressure, .cavitation, .dryRun]

def WatchState.acting : WatchState → Bool
  | .tripped => true
  | .recovering => true
  | _ => false

/-! ## Sources and channels -/

/-- R98. -/
def sourceOf (tankToPump hydrant : Bool) : Source :=
  match tankToPump, hydrant with
  | true, false => .tank
  | false, true => .hydrant
  | true, true => .both
  | false, false => .none

def State.publishedSource (s : State) : Source :=
  sourceOf (s.level .tankToPumpOpen) (s.level .hydrantIntakeOpen)

/-- The role of the channel a watch reads (R101, R103). -/
def watchRole (d : Drive) : Watch → Role
  | .overheat => .casingTemp d
  | .overpressure => .dischargePressure d
  | .cavitation => .intakePressure d
  | .dryRun => .intakePressure d

/-- The pump's intake pressure as last published, when it is known (R104). -/
def State.intake (s : State) (d : Drive) : Option Int := s.knownValue (.intakePressure d)

/-- The input healths of a pump's watches brought up to date (R96). -/
def freshHealths (s : State) (d : Drive) (x : PumpWatches) : PumpWatches :=
  let health (k : Watch) := (s.reading (watchRole d k)).1
  { overheat := { x.overheat with health := health .overheat }
    overpressure := { x.overpressure with health := health .overpressure }
    cavitation := { x.cavitation with health := health .cavitation }
    dryRun := { x.dryRun with health := health .dryRun } }

/-! ## Threshold watches (R100 to R103) -/

def thresholdWatch : Threshold → Watch
  | .overheat => .overheat
  | .overpressure => .overpressure
  | .cavitation => .cavitation

/-- The pending condition on a published value (R101). -/
def watchPending (s : State) (d : Drive) (k : Threshold) (v : Int) : Bool :=
  let p := s.pumpParams d
  match k with
  | .overheat => decide (p.tripTemp ≤ v)
  | .overpressure => decide (p.maxKPa ≤ v)
  | .cavitation => decide (v ≤ p.cavKPa) && (s.pulse (pumpPulse d)).state = .running

/-- The clear condition on a published value (R101). -/
def watchClears (s : State) (d : Drive) (k : Threshold) (v : Int) : Bool :=
  let p := s.pumpParams d
  match k with
  | .overheat => decide (v ≤ p.tripTemp - 8)
  | .overpressure => decide (v < p.maxKPa - 100)
  | .cavitation => decide (p.cavKPa + 20 < v)

/-- R101. -/
def tripTime : Threshold → Micros
  | .overheat => sec 2
  | .overpressure => ms 200
  | .cavitation => sec 1

/-- R101. -/
def clearTime : Threshold → Micros
  | .overheat => sec 10
  | .overpressure => sec 1
  | .cavitation => sec 2

/-- The more extreme of the peak so far and a value (R101). -/
def peakWith (k : Threshold) (peak : Option Int) (v : Int) : Option Int :=
  match peak, k with
  | none, _ => some v
  | some x, .cavitation => some (min x v)
  | some x, _ => some (max x v)

/-- A threshold watch at a publication whose value is known (R100). -/
def watchMoves (s : State) (d : Drive) (k : Threshold) (v : Int) (r : WatchRec) : WatchRec :=
  let pending := watchPending s d k v
  let clears := watchClears s d k v
  match r.state with
  | .clear => if pending then { r with state := .pending, persist := .started s.now (tripTime k) } else r
  | .pending => if pending then r else { r with state := .clear, persist := .stopped }
  | .tripped =>
    if clears then
      { r with state := .recovering, persist := .started s.now (clearTime k), peak := peakWith k r.peak v }
    else { r with peak := peakWith k r.peak v }
  | .recovering =>
    if clears then { r with peak := peakWith k r.peak v }
    else { r with state := .tripped, persist := .stopped, peak := peakWith k r.peak v }

/-- A threshold watch at a publication at which it runs (R103). A watch with no channel stays as it is. -/
def watchPublished (s : State) (d : Drive) (k : Threshold) (r : WatchRec) : WatchRec :=
  match s.reading (watchRole d (thresholdWatch k)) with
  | (.none, _) => r
  | (.unknown, _) => { r with persist := r.persist.suspend s.now }
  | (_, none) => { r with persist := r.persist.suspend s.now }
  | (_, some v) => watchMoves s d k v { r with persist := r.persist.resume s.now }

/-- The conditions under which the watches of a pump run (R99). -/
def State.pumpRuns (s : State) (d : Drive) : Bool := s.turning d && s.pfu.conf = .configured

/-- Whether the watch runs at this publication (R99). -/
def watchRuns (s : State) (d : Drive) (k : Threshold) (r : WatchRec) : Bool :=
  s.pumpRuns d || (k = .overheat && r.state != .clear)

def thresholdInputs (s : State) (d : Drive) (k : Threshold) (w : PpuWork) : PpuWork :=
  let r := w.watch d (thresholdWatch k)
  if watchRuns s d k r then w.setWatch d (thresholdWatch k) (watchPublished s d k r) else w

/-! ## Notices, records and actions -/

/-- A PROTECTION notice (R106, R191). -/
def protectionNews (d : Drive) (k : Watch) (st : WatchState) (c : WatchCause) (value : Option Int)
    (condition : Option Nat) : News :=
  ⟨.protection, byte (driveCode d * 4 + watchCode k),
    [byte (watchStateCode st), byte (watchCauseCode c)] ++ opt16s value ++ [opt8 condition, 0#8]⟩

/-- The cut demand a watch may post; OVERHEAT posts none (R102). -/
def cutsThrottle : Watch → Bool
  | .overheat => false
  | _ => true

/-- A trip: the alarm cause, the cut of a threshold watch, the notice and the record (R102, R106). -/
def tripActions (d : Drive) (k : Watch) (cut : Bool) (value : Option Int) (condition : Option Nat)
    (w : PpuWork) : PpuWork :=
  { w with
    ops := w.ops ++ [.post (.watch d k)]
    cuts := if cut then w.cuts ++ [.post (.watch d k)] else w.cuts
    news := w.news ++ [protectionNews d k .tripped .tripped value condition]
    records := w.records ++ [.protection d k true value .tripped condition] }

/-- A watch enters CLEAR: timers stopped, peak discarded, actions withdrawn, and the notice and the record
of a clear when it had tripped (R99, R100, R104, R106, R111). -/
def clearWatch (d : Drive) (k : Watch) (c : WatchCause) (w : PpuWork) : PpuWork :=
  let r := w.watch d k
  let w := w.setWatch d k { WatchRec.reset with health := r.health }
  let w := { w with
    ops := w.ops ++ [.withdraw (.watch d k)]
    cuts := if r.cutPosted then w.cuts ++ [.withdraw (.watch d k)] else w.cuts }
  if r.state.acting then
    { w with
      news := w.news ++ [protectionNews d k .clear c r.peak none]
      records := w.records ++ [.protection d k false r.peak c none] }
  else w

/-- A persist timer of a threshold watch expires (R100). -/
def thresholdExpired (s : State) (d : Drive) (k : Threshold) (w : PpuWork) : PpuWork :=
  let r := w.watch d (thresholdWatch k)
  match r.state with
  | .pending =>
    let v := s.knownValue (watchRole d (thresholdWatch k))
    let cut := cutsThrottle (thresholdWatch k)
    tripActions d (thresholdWatch k) cut v none
      (w.setWatch d (thresholdWatch k) { r with state := .tripped, persist := .stopped, peak := v, cutPosted := cut })
  | .recovering => clearWatch d (thresholdWatch k) .cleared w
  | _ => w

/-! ## The dry-run watch (R104) -/

/-- The dry-run condition: which of the three is found first, in the order of R104. -/
def dryCondition (s : State) (u : Ppu) (d : Drive) : Option Nat :=
  let t := (s.pumpParams d).tank
  if u.sources.get d ≠ .tank then none
  else if (s.lbu.bands.get t).band = .empty then some 0
  else if (s.lbu.bands.get t).band = .unknown then some 1
  else if (s.tgu.gauges.get t).uncovered then some 2
  else none

/-- The cut test, made in TRIPPED. -/
def cutTest (s : State) (d : Drive) (w : PpuWork) : PpuWork :=
  let r := w.watch d .dryRun
  let starved : Bool := match s.intake d with
    | some v => decide (v ≤ 0)
    | none => false
  if r.state = .tripped ∧ r.dryElapsed ∧ !r.cutPosted ∧ starved then
    { w.setWatch d .dryRun { r with cutPosted := true } with
      cuts := w.cuts ++ [.post (.watch d .dryRun)]
      news := w.news ++ [protectionNews d .dryRun .tripped .cut (s.intake d) none] }
  else w

/-- The DRY_RUN watch of a pump runs: an ISU publication has started it, and the conditions hold (R99). -/
def dryRuns (s : State) (d : Drive) (w : PpuWork) : Bool := w.ppu.started.get d && s.pumpRuns d

/-- The DRY_RUN watch evaluates its condition while it runs. The intake pressure that a trip's notice and record name
(R106) is absent while its channel is UNKNOWN, though R5 still publishes the last good value: the model's choice (log
entry 49). A return from RECOVERING to TRIPPED keeps the peak, which is the model's choice too (log entry 59). -/
def dryRunStep (s : State) (d : Drive) (w : PpuWork) : PpuWork :=
  let r := w.watch d .dryRun
  if !dryRuns s d w then w
  else match r.state, dryCondition s w.ppu d with
    | .clear, some c =>
      tripActions d .dryRun false (s.intake d) (some c)
        (w.setWatch d .dryRun
          { r with state := .tripped, dry := .started s.now (sec (s.pumpParams d).dryS), dryElapsed := false })
    | .tripped, some _ => cutTest s d w
    | .tripped, none =>
      w.setWatch d .dryRun { r with state := .recovering, persist := .started s.now dryClearTime }
    | .recovering, some _ =>
      cutTest s d (w.setWatch d .dryRun { r with state := .tripped, persist := .stopped })
    | _, _ => w

/-- The lowest known intake pressure since the trip, at an ISU publication while the watch runs (R104). The publication
that trips the watch counts, and a return from RECOVERING to TRIPPED carries the peak of the episode on: both are the
model's choice (log entries 54 and 59). -/
def dryRunPeak (s : State) (d : Drive) (w : PpuWork) : PpuWork :=
  let r := w.watch d .dryRun
  match dryRuns s d w && r.state.acting, s.intake d with
  | true, some v => w.setWatch d .dryRun { r with peak := peakWith .cavitation r.peak v }
  | _, _ => w

/-- The dry timer expires. -/
def dryExpired (s : State) (d : Drive) (w : PpuWork) : PpuWork :=
  let r := w.watch d .dryRun
  cutTest s d (w.setWatch d .dryRun { r with dry := .stopped, dryElapsed := true })

/-- The DRY_RUN watch's persist timer expires. -/
def dryClearExpired (d : Drive) (w : PpuWork) : PpuWork :=
  match (w.watch d .dryRun).state with
  | .recovering => clearWatch d .dryRun .cleared w
  | _ => w

/-! ## Warning and reserve causes (R105) -/

/-- A profile is in use: CONFIGURED, or APPLYING after an apply accepted from CONFIGURED. -/
def State.profileInUse (s : State) : Bool :=
  s.pfu.inUse.isSome && (s.pfu.conf = .configured || s.pfu.conf = .applying)

def overheatWarn (s : State) (d : Drive) (w : PpuWork) : PpuWork :=
  if !s.profileInUse then w
  else match s.reading (.casingTemp d) with
    | (.none, _) => { w with ops := w.ops ++ [.withdraw (.overheatWarn d)] }
    | (.unknown, _) => w
    | (_, none) => w
    | (_, some v) =>
      { w with ops := w.ops ++
        [if (s.pumpParams d).warnTemp ≤ v then .post (.overheatWarn d) else .withdraw (.overheatWarn d)] }

/-- A pump draws from the tank and its band is RESERVE or EMPTY. -/
def inReserve (s : State) (t : Tank) : Bool :=
  s.profileInUse && s.drawnFrom t &&
    ((s.lbu.bands.get t).band = .reserve || (s.lbu.bands.get t).band = .empty)

/-- The TANK_RESERVE causes (R105). That several go from T0 to T3 is the model's choice (log entry 55). -/
def tankReserve (s : State) (w : PpuWork) : PpuWork :=
  let s := { s with ppu := w.ppu }
  { w with ops := w.ops ++ allTanks.map fun t =>
      if inReserve s t then .post (.tankReserve t) else .withdraw (.tankReserve t) }

/-! ## Events -/

/-- A pump's watches, and behind them its OVERHEAT_WARN, at an ISU publication, so that every member of MAIN is handed
over before one of AUX (R102). R102 does not place the warning among the watches: the model's choice (log entry 66). -/
def pumpInputs (s : State) (d : Drive) (w : PpuWork) : PpuWork :=
  let start : Bool := w.ppu.started.get d || s.pumpRuns d
  let w := { w with ppu := { w.ppu with
    watches := w.ppu.watches.set d (freshHealths s d (w.ppu.watches.get d))
    started := w.ppu.started.set d start } }
  let w := thresholdInputs s d .overheat w
  let w := thresholdInputs s d .overpressure w
  let w := thresholdInputs s d .cavitation w
  overheatWarn s d (dryRunPeak s d (dryRunStep s d w))

/-- An ISU publication (R98 to R105). -/
def ppuInputs (s : State) (w : PpuWork) : PpuWork :=
  let src := s.publishedSource
  let w := { w with ppu := { w.ppu with sources := ⟨src, src⟩ } }
  tankReserve s (pumpInputs s .aux (pumpInputs s .main w))

/-- A gauge publication, or an LBU publication of a band change (R104, R105). -/
def ppuLevels (s : State) (w : PpuWork) : PpuWork :=
  tankReserve s (dryRunStep s .aux (dryRunStep s .main w))

/-- A pump whose drive is published neither ENGAGED nor ROLLING (R99). -/
def stopPump (s : State) (d : Drive) (w : PpuWork) : PpuWork :=
  if s.turning d then w
  else
    let w := { w with ppu := { w.ppu with started := w.ppu.started.set d false } }
    [Watch.overpressure, .cavitation, .dryRun].foldl (fun w k => clearWatch d k .driveStopped w) w

/-- A DEU publication (R99, R105). -/
def ppuDrives (s : State) (w : PpuWork) : PpuWork :=
  tankReserve s (stopPump s .aux (stopPump s .main w))

/-- An OVERHEAT watch at the completion of an apply (R111). The return from RECOVERING to TRIPPED carries the peak on:
R111 does not say whether the peak of R96 restarts there, and this is the model's choice (log entry 59). -/
def overheatApplied (r : WatchRec) : WatchRec :=
  match r.state with
  | .pending => { r with state := .clear, persist := .stopped }
  | .recovering => { r with state := .tripped, persist := .stopped }
  | _ => r

/-- All that the PPU has posted for a pump is withdrawn, and its watches enter CLEAR (R102, R111). -/
def unloadPump (w : PpuWork) (d : Drive) : PpuWork :=
  let w := allWatches.foldl (fun w k => clearWatch d k .profile w) w
  { w with
    ppu := { w.ppu with started := w.ppu.started.set d false }
    ops := w.ops ++ [.withdraw (.overheatWarn d)] }

/-- All the PPU has posted is withdrawn and every watch enters CLEAR (R111), MAIN's members before AUX's (R102). -/
def ppuUnload (w : PpuWork) : PpuWork :=
  let w := bothDrives.foldl unloadPump w
  { w with ops := w.ops ++ allTanks.map (fun t => .withdraw (.tankReserve t)) }

/-- A change of the configuration state (R111). -/
def ppuConf (s : State) (before after : Conf) (w : PpuWork) : PpuWork :=
  let w := match before, after with
    | _, .loading => ppuUnload w
    | _, .unconfigured => ppuUnload w
    | .applying, .configured =>
      let w := w.setWatch .main .overheat (overheatApplied (w.watch .main .overheat))
      w.setWatch .aux .overheat (overheatApplied (w.watch .aux .overheat))
    | _, _ => w
  if after = .loading then
    { w with ppu := { w.ppu with watches :=
      let bare (x : PumpWatches) : PumpWatches :=
        ⟨{ x.overheat with health := .none }, { x.overpressure with health := .none },
          { x.cavitation with health := .none }, { x.dryRun with health := .none }⟩
      ⟨bare w.ppu.watches.main, bare w.ppu.watches.aux⟩ } }
  else
    { w with ppu := { w.ppu with watches :=
      ⟨freshHealths s .main w.ppu.watches.main, freshHealths s .aux w.ppu.watches.aux⟩ } }

/-! ## The alarm cause set (R107 to R110) -/

def SetOp.isPost {α : Type} : SetOp α → Bool
  | .post _ => true
  | .withdraw _ => false

/-- Withdrawals first, each kind in the order handed over (R107). -/
def withdrawalsFirst {α : Type} (ops : List (SetOp α)) : List (SetOp α) :=
  ops.filter (fun o => !o.isPost) ++ ops.filter SetOp.isPost

/-- One post or withdrawal (R107). -/
def alarmOp (alarms : List Alarm) : SetOp AlarmCause → List Alarm
  | .post c => if alarms.any fun a => a.cause = c then alarms else alarms ++ [⟨c, false⟩]
  | .withdraw c => alarms.filter fun a => a.cause != c

def SetOp.member {α : Type} : SetOp α → α
  | .post a => a
  | .withdraw a => a

def unsilenced (alarms : List Alarm) : Nat := (alarms.filter fun a => !a.silenced).length

/-- An ALARM notice, less the horn's level (R110). -/
def alarmNews (subject : Byte) (change : Nat) (alarms : List Alarm) (horn : Bool) : News :=
  ⟨.alarm, subject,
    [byte change, byte alarms.length, byte (unsilenced alarms), flag horn, 0#8, 0#8]⟩

/-- The set after a list of posts and withdrawals. -/
def alarmsAfter (alarms : List Alarm) (ops : List (SetOp AlarmCause)) : List Alarm :=
  ops.foldl alarmOp alarms

/-- One notice for each operation that changes the set (R110). That its counts are those right after that one change,
while its horn level is the one at the end of the event, is the model's choice (log entry 62). -/
def alarmChanges (horn : Bool) : List Alarm → List (SetOp AlarmCause) → List News
  | _, [] => []
  | alarms, op :: rest =>
    let after := alarmOp alarms op
    (if after = alarms then []
      else [alarmNews (byte (alarmCode op.member)) (if op.isPost then 0 else 1) after horn]) ++
    alarmChanges horn after rest

/-- Some member has not been silenced (R109). -/
def hornSounds (alarms : List Alarm) : Bool := alarms.any fun a => !a.silenced

/-! ## The end of a PPU event -/

/-- DO8 and DO9 as the records and the set command them (R102, R109). -/
def ppuOutputs (u : Ppu) : Ppu :=
  { u with do8 := u.watches.main.overheat.state.acting, do9 := hornSounds u.alarms }

/-- A watch record as it is published, less its timers (R96). -/
def WatchRec.published (r : WatchRec) : WatchRec := { r with persist := .stopped, dry := .stopped }

def PumpWatches.published (x : PumpWatches) : PumpWatches :=
  ⟨x.overheat.published, x.overpressure.published, x.cavitation.published, x.dryRun.published⟩

/-- The event changed what the unit publishes (R96). -/
def ppuPublishes (a b : Ppu) : Bool :=
  a.watches.main.published != b.watches.main.published ||
  a.watches.aux.published != b.watches.aux.published || a.sources != b.sources || a.alarms != b.alarms

/-- The unit after an event: the set takes the event's posts and withdrawals, and the outputs follow. -/
def ppuSettled (w : PpuWork) : Ppu :=
  ppuOutputs { w.ppu with alarms := alarmsAfter w.ppu.alarms (withdrawalsFirst w.ops) }

/-- What a PPU event hands over (R96, R102, R106, R110). -/
def ppuOut (before : Ppu) (w : PpuWork) : Out where
  news := alarmChanges (ppuSettled w).do9 w.ppu.alarms (withdrawalsFirst w.ops) ++ w.news
  events :=
    unlessEmpty .tau .cuts w.cuts ++ unlessEmpty .drc .records w.records ++
    (if ppuPublishes before (ppuSettled w) then [(.lku, .watches)] else [])

def State.ppuCommit (s : State) (w : PpuWork) : State :=
  { s with ppu := ppuSettled w }.emit (ppuOut s.ppu w)

/-- The Pump Protection Unit takes an event with the body given. -/
def State.ppuTakes (s : State) (body : PpuWork → PpuWork) : State := s.ppuCommit (body { ppu := s.ppu })

/-- SILENCE ALARM (R108, R110). -/
def bodySilence (w : PpuWork) : PpuWork :=
  let alarms := w.ppu.alarms.map fun a => { a with silenced := true }
  { w with
    ppu := { w.ppu with alarms := alarms }
    news := if hornSounds w.ppu.alarms then w.news ++ [alarmNews 0xFF#8 2 alarms false] else w.news }

/-- An event handed to the Pump Protection Unit. -/
def State.ppuEvent (s : State) : Event → State
  | .inputs => s.ppuTakes (ppuInputs s)
  | .gauges => s.ppuTakes (ppuLevels s)
  | .levels bandChanged _ _ => if bandChanged then s.ppuTakes (ppuLevels s) else s
  | .drives => s.ppuTakes (ppuDrives s)
  | .conf before after => s.ppuTakes (ppuConf s before after)
  | .alarms ops => s.ppuTakes fun w => { w with ops := ops }
  | _ => s

end Sys2Proof.Machine
end

