-- ==== Sys2Proof/Machine/Lockouts.lean ====
section
/-! DEFINITION. The Lockout Unit (R113 to R133): built-in lockouts, the lockout table, confirmations and
overrides. -/

namespace Sys2Proof.Machine

/-! ## Terms (R118, R119) -/

/-- The block whose publications a term reads. -/
def termSource : TermKind → Block
  | .parkBrakeSet => .isu
  | .transNeutral => .isu
  | .roadStill => .isu
  | .roadSpeedAbove _ => .isu
  | .engineAbove _ => .isu
  | .driveStateIn _ _ => .deu
  | .tankBandAtMost _ _ => .lbu
  | .tankQualityAtLeastBad _ _ => .tgu
  | .outletUncovered _ => .tgu
  | .tiltExtreme => .tgu
  | .watchTripped _ _ => .ppu
  | .authorityIs _ => .tau
  | .hydrantOpen => .isu
  | .fillOpen => .lbu
  | .supplyNotNormal => .pfu
  | .inputLevel _ _ => .isu

/-- A strict comparison with a speed that may be UNKNOWN. -/
def speedAbove (speed : Option Nat) (v : Nat) : Option Bool := speed.map fun x => decide (v < x)

/-- A term's truth before its negate; none when it is UNKNOWN (R118). -/
def termTruth (s : State) : TermKind → Option Bool
  | .parkBrakeSet => some (s.level .parkBrake)
  | .transNeutral => some (s.level .transNeutral)
  | .roadStill => some s.isu.pub.roadStill
  | .roadSpeedAbove v => speedAbove (s.pulse .road).speed v
  | .engineAbove v => speedAbove (s.pulse .engine).speed v
  | .driveStateIn d states => if s.deu.adopted then some (states.contains (s.driveState d)) else none
  | .tankBandAtMost t b =>
    let x := (s.lbu.bands.get t).band
    if x = .unknown then none else some (decide (bandCode x ≤ bandCode b))
  | .tankQualityAtLeastBad t q =>
    let x := (s.tgu.gauges.get t).quality
    if x = .unknown then none else some (decide (qualityCode q ≤ qualityCode x))
  | .outletUncovered t =>
    let g := s.tgu.gauges.get t
    if g.quality = .unknown then none else some g.uncovered
  | .tiltExtreme =>
    match s.tgu.tilt.extreme with
    | .yes => some true
    | .no => some false
    | .unknown => none
  | .watchTripped p k =>
    let r := (s.ppu.watches.get p).get k
    if k ≠ .dryRun ∧ r.health = .unknown then none
    else some (r.state.acting && (k = .dryRun || r.health ≠ .none))
  | .authorityIs a => some (s.tau.state = a)
  | .hydrantOpen => some (s.level .hydrantIntakeOpen)
  | .fillOpen => some (s.lbu.valve.state = .opened)
  | .supplyNotNormal => some (s.pfu.supply != .normal)
  | .inputLevel n asserted =>
    some ((((s.isu.pub.discretes[n]?).map (·.level)).getD false) = asserted)

/-- What a term counts as: an UNKNOWN term is true in either form (R119). -/
def termCounts (s : State) (t : Term) : Bool :=
  match termTruth s t.kind with
  | some x => x != t.negate
  | none => true

/-- An entry is ACTIVE when every term counts as true (R119). -/
def entryActive (s : State) (e : LockoutEntry) : Bool := e.terms.all (termCounts s)

/-- R121. -/
def formEffective (m : Mode) (active overridden confirmed : Bool) : Bool :=
  match m with
  | .hard => active && !overridden
  | .confirm => active && !overridden && !confirmed
  | .advisory => false

/-! ## An LKU event under way -/

/-- What happened to an entry in an event, beyond a change of ACTIVE (R130). -/
inductive LockMark where
  | confirmed
  | consumed
  | overrideStart
  | overrideEnd (reason : EndReason)
  deriving DecidableEq, Repr

structure LkuWork where
  lku : Lku
  marks : List (Nat × LockMark) := []
  records : List RecordBody := []
  status : Status := .ok
  deriving DecidableEq, Repr

def Lku.overridden (l : Lku) (n : Nat) : Bool := l.overrides.any fun o => o.slot = n

def Lku.entry (l : Lku) (n : Nat) : LockoutEntry := (l.table[n]?).getD .notInUse

def Lku.entryRec (l : Lku) (n : Nat) : LockoutRec := (l.records[n]?).getD .inactive

/-- Entry records rebuilt from the table, the record and the slot number. -/
def Lku.mapRecords (l : Lku) (f : Nat → LockoutEntry → LockoutRec → LockoutRec) : Lku :=
  { l with records := ((List.range 16).zip (l.table.zip l.records)).map fun (n, e, r) => f n e r }

/-- An entry's ACTIVE and confirmed after an evaluation (R120, R125). -/
def evalRecord (s : State) (e : LockoutEntry) (r : LockoutRec) : LockoutRec :=
  let active := entryActive s e
  { r with active := active, confirmed := r.confirmed && active }

/-- Every entry in use that the test picks is evaluated. -/
def Lku.evaluate (s : State) (pick : LockoutEntry → Bool) (l : Lku) : Lku :=
  l.mapRecords fun _ e r => if e.inUse && pick e then evalRecord s e r else r

/-- The entries that have a term from a source (R120). -/
def readsFrom (source : Block) (e : LockoutEntry) : Bool := e.terms.any fun t => termSource t.kind = source

/-- An event that brings a source's publication. -/
def evaluateFrom (s : State) (source : Block) (w : LkuWork) : LkuWork :=
  { w with lku := w.lku.evaluate s (readsFrom source) }

/-! ## Built-ins and the lamp (R114 to R116) -/

def mainGearActive (s : State) : Bool := s.driveState .main != .disengaged || s.isu.pub.split != .road

def auxGearActive (s : State) : Bool :=
  match s.driveState .aux with
  | .preparing => true
  | .shifting => true
  | .releasing => true
  | .faulted => true
  | .engaged => !s.level .pumpRollSelect
  | _ => false

/-- MAIN_GEAR and AUX_GEAR brought up to date (R114). -/
def builtIns (s : State) (w : LkuWork) : LkuWork :=
  { w with lku := { w.lku with mainGear := mainGearActive s, auxGear := auxGearActive s } }

/-- START_HOLD ends at the publication of adoption complete (R114). -/
def endStartHold (s : State) (w : LkuWork) : LkuWork :=
  { w with lku := { w.lku with startHold := w.lku.startHold && !s.deu.adopted } }

def lampLit (s : State) : Bool :=
  (s.driveState .main = .engaged && s.level .parkBrake && s.level .transNeutral) ||
  (s.turning .aux && !s.ppu.alarms.any fun a => a.cause = .driveFault .main || a.cause = .driveFault .aux)

/-- DO7 brought up to date (R116). -/
def lamp (s : State) (w : LkuWork) : LkuWork := { w with lku := { w.lku with do7 := lampLit s } }

/-! ## Overrides (R126 to R129) -/

/-- An entry's OVERRIDE end record (R129). -/
def endRecord (l : Lku) (reason : EndReason) (n : Nat) : RecordBody :=
  .overrideEnd n (l.entry n).target reason (l.entryRec n).active

/-- The overrides the test picks end, in the order of the list (R127, R129). -/
def endOverrides (reason : EndReason) (pick : Override → Bool) (w : LkuWork) : LkuWork :=
  let ending := (w.lku.overrides.filter pick).map (·.slot)
  { w with
    lku := { w.lku with overrides := w.lku.overrides.filter fun o => !pick o }
    marks := w.marks ++ ending.map fun n => (n, .overrideEnd reason)
    records := w.records ++ ending.map (endRecord w.lku reason) }

/-- Entry `n` is evaluated afresh (R127). -/
def evaluateSlot (s : State) (n : Nat) (w : LkuWork) : LkuWork :=
  { w with lku := w.lku.mapRecords fun k e r => if e.inUse && k = n then evalRecord s e r else r }

/-- The override of a slot ends (R127, R128). -/
def endOverride (s : State) (reason : EndReason) (n : Nat) (w : LkuWork) : LkuWork :=
  endOverrides reason (fun o => o.slot = n) (evaluateSlot s n w)

/-- An override granted or restarted (R126, R129). -/
def grantOverride (s : State) (n seconds : Nat) (w : LkuWork) : LkuWork :=
  let l := w.lku
  let timer := Timer.started s.now (sec seconds)
  let restart := l.overridden n
  { w with
    lku := { l with overrides :=
      if restart then l.overrides.map fun o => if o.slot = n then { o with timer := timer } else o
      else l.overrides ++ [⟨n, timer⟩] }
    marks := w.marks ++ [(n, .overrideStart)]
    records := w.records ++
      [.overrideStart n (l.entry n).target seconds (l.entryRec n).active restart]
    status := .ok }

/-! ## Event bodies -/

/-- Every override ends, each entry evaluated afresh (R127, R128). -/
def removeKey (s : State) (w : LkuWork) : LkuWork :=
  endOverrides .keyRemoved (fun _ => true)
    ((w.lku.overrides.map (·.slot)).foldl (fun w n => evaluateSlot s n w) w)

/-- An ISU publication; a falling edge of SERVICE_KEY ends every override (R128). -/
def lkuInputs (s : State) (w : LkuWork) : LkuWork :=
  let w := lamp s (builtIns s (evaluateFrom s .isu w))
  if s.falling .serviceKey then removeKey s w else w

/-- A DEU publication. -/
def lkuDrives (s : State) (w : LkuWork) : LkuWork :=
  lamp s (endStartHold s (builtIns s (evaluateFrom s .deu w)))

/-- A PPU publication. -/
def lkuWatches (s : State) (w : LkuWork) : LkuWork := lamp s (evaluateFrom s .ppu w)

/-- A passed start spends the confirmations of its start-guard (R125). -/
def lkuStarted (d : Drive) (w : LkuWork) : LkuWork :=
  let spent (e : LockoutEntry) (r : LockoutRec) : Bool :=
    e.inUse && e.target = startGuard d && r.confirmed
  let numbered := (List.range 16).zip (w.lku.table.zip w.lku.records)
  { w with
    lku := w.lku.mapRecords fun _ e r => if spent e r then { r with confirmed := false } else r
    marks := w.marks ++ numbered.filterMap fun (n, e, r) => if spent e r then some (n, .consumed) else none }

/-- No table is in use (R132). -/
def noTable : List LockoutEntry := List.replicate 16 .notInUse

/-- The table of the profile in use (R117). -/
def State.lockoutTable (s : State) : List LockoutEntry :=
  match s.pfu.inUse with
  | some p => p.lockouts
  | none => noTable

/-- Every entry inactive and unconfirmed. -/
def noRecords : List LockoutRec := List.replicate 16 .inactive

/-- A new table comes into use and every entry in it is evaluated at once (R132). A slot's ACTIVE is kept
for the comparison of notices only through the state before the event. -/
def newTable (s : State) (w : LkuWork) : LkuWork :=
  { w with lku :=
    ({ w.lku with table := s.lockoutTable, records := noRecords } : Lku).evaluate s fun _ => true }

/-- A change of the configuration state (R114, R132). -/
def lkuConf (s : State) (before after : Conf) (w : LkuWork) : LkuWork :=
  let w := builtIns s w
  match before, after with
  | _, .applying => w
  | _, .configured => newTable s (endOverrides .profile (fun _ => true) w)
  | _, _ =>
    let w := endOverrides .profile (fun _ => true) w
    { w with lku := { w.lku with table := noTable, records := noRecords } }

/-- An override timer expires (R127). -/
def lkuExpired (s : State) (n : Nat) (w : LkuWork) : LkuWork := endOverride s .expired n w

/-- CONFIRM LOCKOUT (R124). -/
def bodyConfirm (s : State) (slot : Nat) (w : LkuWork) : LkuWork :=
  let l := w.lku
  if 15 < slot then { w with status := .badValue }
  else match s.pfu.conf with
    | .loading => { w with status := .notConfigured }
    | .unconfigured => { w with status := .notConfigured }
    | .applying => { w with status := .busy }
    | .configured =>
      if !(l.entry slot).inUse ∨ (l.entry slot).mode ≠ .confirm then { w with status := .badValue }
      else if !(l.entryRec slot).active then { w with status := .refused .notActive }
      else if (l.entryRec slot).confirmed then { w with status := .ok }
      else
        { w with
          lku := l.mapRecords fun n _ r => if n = slot then { r with confirmed := true } else r
          marks := w.marks ++ [(slot, .confirmed)]
          status := .ok }

/-- OVERRIDE LOCKOUT (R126). -/
def bodyOverride (s : State) (slot seconds : Nat) (w : LkuWork) : LkuWork :=
  let l := w.lku
  if 15 < slot ∨ seconds < 1 ∨ 600 < seconds then { w with status := .badValue }
  else if !s.level .serviceKey then { w with status := .keyNeeded }
  else match s.pfu.conf with
    | .loading => { w with status := .notConfigured }
    | .unconfigured => { w with status := .notConfigured }
    | .applying => { w with status := .busy }
    | .configured =>
      if !(l.entry slot).inUse then { w with status := .badValue }
      else if !(l.entry slot).overridable then { w with status := .refused .notOverridable }
      else if l.overridden slot then grantOverride s slot seconds w
      else if overrideCapacity ≤ l.overrides.length then { w with status := .refused .overrideFull }
      else grantOverride s slot seconds w

/-- CANCEL OVERRIDE (R128). -/
def bodyCancel (s : State) (slot : Nat) (w : LkuWork) : LkuWork :=
  if 15 < slot then { w with status := .badValue }
  else if w.lku.overridden slot then { endOverride s .cancelled slot w with status := .ok }
  else { w with status := .refused .state }

/-! ## The end of an LKU event -/

/-- The entries that demand DO3 (R115). -/
def inhibitEntries (s : State) (l : Lku) : List Nat :=
  ((List.range 16).zip (l.table.zip l.records)).filterMap fun (n, e, r) =>
    if e.inUse && r.effective &&
        (e.target = .roadGear || (e.target = .auxRoll && s.driveState .aux = .engaged)) then some n
    else none

def Lku.builtInActive (l : Lku) : Bool := l.mainGear || l.auxGear || l.startHold

/-- The unit at the end of an event: effective from ACTIVE, override and confirmed, and DO3 (R115, R121). -/
def lkuSettled (s : State) (l : Lku) : Lku :=
  let l := l.mapRecords fun n e r =>
    { r with effective := e.inUse && formEffective e.mode r.active (l.overridden n) r.confirmed }
  { l with do3 := l.builtInActive || !(inhibitEntries s l).isEmpty }

def allTargets : List Target := [.mainEngage, .auxEngage, .roadGear, .auxRoll, .panelAuthority, .tankFill]

/-- The targets whose effect differs. -/
def changedTargets (a b : Lku) : List Target := allTargets.filter fun t => a.effect t != b.effect t

/-- The flags of an entry `e` in slot `n` (R190): overridable, ACTIVE, effective, confirmed and override present in bits
0 to 4. R190 lists them without bit places: these are the model's choice (log entry 19). -/
def entryFlags (l : Lku) (e : LockoutEntry) (n : Nat) : Nat :=
  let r := l.entryRec n
  bit 0 e.overridable + bit 1 r.active + bit 2 r.effective + bit 3 r.confirmed +
    bit 4 (l.overridden n)

/-- What is left of an entry's override, in whole seconds. -/
def overrideLeft (now : Micros) (l : Lku) (n : Nat) : Option Nat :=
  (l.overrides.find? fun o => o.slot = n).map fun o => o.timer.secondsLeft now

def markCode : LockMark → Nat
  | .confirmed => 2
  | .consumed => 3
  | .overrideStart => 4
  | .overrideEnd _ => 5

/-- The cause of entry `n`'s notice: the first that applies in the order of R130. -/
def entryCause (before after : Lku) (marks : List (Nat × LockMark)) (n : Nat) : Option Nat :=
  let a := (before.entryRec n).active
  let b := (after.entryRec n).active
  if !a && b then some 0
  else if a && !b then some 1
  else ([2, 3, 4, 5] : List Nat).find? fun c => marks.any fun (k, m) => k = n && markCode m = c

/-- How entry `n`'s override ended in this event. -/
def endReason (marks : List (Nat × LockMark)) (n : Nat) : Option Nat :=
  marks.findSome? fun (k, m) =>
    match m with
    | .overrideEnd r => if k = n then some (endReasonCode r) else none
    | _ => none

/-- The slots whose overrides ended in this event, in the order of the override list. -/
def endedSlots (marks : List (Nat × LockMark)) : List Nat :=
  marks.filterMap fun (k, m) =>
    match m with
    | .overrideEnd _ => some k
    | _ => none

/-- The order of an event's entry notices: by entry number (R130), but that the entries whose overrides ended
stand in the order of the override list (R129) in the places their numbers give them. How the two rules join is
the model's choice (log entry 35). -/
def noticeOrder (ended : List Nat) : List Nat → List Nat → List Nat
  | [], _ => []
  | n :: rest, [] => n :: noticeOrder ended rest []
  | n :: rest, k :: left =>
    if ended.contains n then k :: noticeOrder ended rest left else n :: noticeOrder ended rest (k :: left)

/-- Entry `n`'s LOCKOUT notice (R130, R191). The mode stands in bits 5 and 6 of the flags byte, which is the
model's choice (log entry 13); so is that a slot in use in both tables of an apply names its new entry (log entry
36), and that the end reason is sent under any cause when an override of the entry ended in this event, and 0xFF when
none did (log entry 50). -/
def entryNews (now : Micros) (before after : Lku) (marks : List (Nat × LockMark)) (n : Nat) : List News :=
  match entryCause before after marks n with
  | none => []
  | some c =>
    let e := if (after.entry n).inUse then after.entry n else before.entry n
    [⟨.lockout, byte n,
      [byte c, byte (targetCode e.target), byte (entryFlags after e n + 32 * modeCode e.mode)] ++
      opt16 (overrideLeft now after n) ++ [opt8 (endReason marks n)]⟩]

/-- The built-ins as flags, MAIN_GEAR in bit 0, AUX_GEAR in bit 1 and START_HOLD in bit 2: the bit places are the
model's choice (log entry 37). -/
def builtInFlags (l : Lku) : Nat := bit 0 l.mainGear + bit 1 l.auxGear + bit 2 l.startHold

/-- The inhibit's LOCKOUT notice (R115, R130, R191). That a level reads 1 when asserted is the model's choice (log
entry 37). -/
def inhibitNews (s : State) (before after : Lku) : List News :=
  if before.do3 = after.do3 then []
  else [⟨.lockout, 0xFF#8,
    [byte (if after.do3 then 6 else 7), flag after.do3, byte (builtInFlags after)] ++
    be16 (maskOf (inhibitEntries s after)) ++ [0#8]⟩]

/-- What an LKU event hands over (R120, R129, R130). -/
def lkuOut (s : State) (before after : Lku) (w : LkuWork) : Out where
  news :=
    ((noticeOrder (endedSlots w.marks) (List.range 16) (endedSlots w.marks)).map
      (entryNews s.now before after w.marks)).flatten ++ inhibitNews s before after
  events :=
    unlessEmpty .drc .records w.records ++
    (if (changedTargets before after).isEmpty then []
      else toBlocks [.deu, .lbu, .tau] (.lockouts (changedTargets before after)))

def State.lkuCommit (s : State) (w : LkuWork) : State :=
  { s with lku := lkuSettled s w.lku }.emit (lkuOut s s.lku (lkuSettled s w.lku) w)

/-- The Lockout Unit takes an event with the body given. -/
def State.lkuTakes (s : State) (body : LkuWork → LkuWork) : State := s.lkuCommit (body { lku := s.lku })

/-- An event handed to the Lockout Unit. -/
def State.lkuEvent (s : State) : Event → State
  | .inputs => s.lkuTakes (lkuInputs s)
  | .gauges => s.lkuTakes (evaluateFrom s .tgu)
  | .levels _ _ _ => s.lkuTakes (evaluateFrom s .lbu)
  | .drives => s.lkuTakes (lkuDrives s)
  | .watches => s.lkuTakes (lkuWatches s)
  | .authority => s.lkuTakes (evaluateFrom s .tau)
  | .supply _ _ => s.lkuTakes (evaluateFrom s .pfu)
  | .conf before after => s.lkuTakes (lkuConf s before after)
  | .started d => s.lkuTakes (lkuStarted d)
  | _ => s

/-! ## GET LOCKOUTS (R131, R190) -/

/-- One slot of the reply: one that is not in use carries no target, mode or remaining time. -/
def slotReply (now : Micros) (l : Lku) (n : Nat) : List Byte :=
  let e := l.entry n
  if e.inUse then
    [1#8, byte (targetCode e.target), byte (modeCode e.mode), byte (entryFlags l e n)] ++
      opt16 (overrideLeft now l n)
  else [0#8, 0xFF#8, 0xFF#8, 0#8] ++ opt16 none

/-- The levels of DO3 and DO7 read 1 when asserted and lit, which is the model's choice (log entry 37). -/
def lockoutsReply (s : State) : List Byte :=
  let l := s.lku
  [byte (builtInFlags l), flag l.do3] ++ be16 (maskOf (inhibitEntries s l)) ++
    [flag l.do7, byte l.overrides.length] ++ ((List.range 16).map (slotReply s.now l)).flatten

end Sys2Proof.Machine
end

