-- ==== Sys2Proof/Machine/Throttle.lean ====
section
/-! DEFINITION. The Throttle Authority Unit (R134 to R146): the transfer of the throttle between cab and
panel, and the cut demand set. -/

namespace Sys2Proof.Machine

/-! ## Conditions (R135) -/

def driveCondition (s : State) : Bool := s.driveState .main = .engaged || s.driveState .aux = .engaged

/-- The panel throttle is at its idle stop. -/
def State.panelIdle (s : State) : Bool := s.level .panelThrottleIdle

/-! ## A TAU event under way -/

/-- `causes` holds the causes of the changes of state, in the order they are made. -/
structure TauWork where
  tau : Tau
  causes : List AuthCause := []
  denied : Option Nat := none
  held : Bool := false
  cutChanges : List (SetOp Cut) := []
  status : Status := .ok
  deriving DecidableEq, Repr

def TauWork.moveTo (w : TauWork) (st : Authority) (c : AuthCause) : TauWork :=
  { w with tau := { w.tau with state := st, cause := some c }, causes := w.causes ++ [c] }

/-- The state gives the panel authority or is about to. -/
def Authority.towardPanel : Authority → Bool
  | .toPanel => true
  | .panel => true
  | _ => false

/-- The entry into TO_CAB (R141). -/
def toCab (s : State) (c : AuthCause) (w : TauWork) : TauWork :=
  let w := w.moveTo .toCab c
  { w with tau := { w.tau with
    resumeHold := false, reclaimPending := false, reclaim := .stopped
    transferPurpose := some .toCab, transfer := .started s.now (sec s.authorityParams.toCabS) } }

/-- A return from TO_PANEL or PANEL with a condition found (R141). -/
def returnIf (s : State) (found : Bool) (c : AuthCause) (w : TauWork) : TauWork :=
  if found && w.tau.state.towardPanel then toCab s c w else w

/-- The published drives no longer meet the drive condition. It is looked at in every event but the transfer
timer's expiry, so that no event ends in TO_PANEL or PANEL without the drive condition (R138; log entry 17). -/
def driveLeft (s : State) (w : TauWork) : TauWork := returnIf s (!driveCondition s) .driveLeft w

/-- The entry into a state with no transfer running. -/
def arrive (st : Authority) (c : AuthCause) (w : TauWork) : TauWork :=
  let w := w.moveTo st c
  { w with tau := { w.tau with transferPurpose := none, transfer := .stopped } }

/-- The completion tests of R140 and R143. -/
def complete (s : State) (w : TauWork) : TauWork :=
  if s.panelIdle && s.atIdle then
    match w.tau.state with
    | .toPanel => arrive .panel .granted w
    | .toCab => arrive .cab .returned w
    | _ => w
  else w

/-! ## Event bodies -/

/-- Why a panel request in CAB is denied: the first test of R139 that fails. -/
def panelDenial (s : State) (t : Tau) : Option Nat :=
  if s.rising .cabAuthReq then some 0
  else if !driveCondition s then some 1
  else if s.effective .panelAuthority then some 2
  else if !t.cuts.isEmpty then some 3
  else none

/-- A rising edge of PANEL_AUTH_REQ (R139). -/
def panelRequest (s : State) (w : TauWork) : TauWork :=
  match w.tau.state with
  | .cab =>
    match panelDenial s w.tau with
    | some reason => { w with denied := some reason }
    | none =>
      let w := w.moveTo .toPanel .requested
      { w with tau := { w.tau with
        transferPurpose := some .toPanel
        transfer := .started s.now (sec s.authorityParams.toPanelS) } }
  | .toCab => { w with denied := some 4 }
  | _ => w

/-- A cab reclaim held for the panel throttle (R142). -/
def holdReclaim (s : State) (w : TauWork) : TauWork :=
  if w.tau.reclaimPending then w
  else { w with
    tau := { w.tau with
      reclaimPending := true, reclaim := .started s.now (sec s.authorityParams.reclaimS) }
    held := true }

/-- The cab switch and a pending reclaim, as the state before the event stands (R141, R142). -/
def cabRequest (s : State) (w : TauWork) : TauWork :=
  match w.tau.state with
  | .toPanel => returnIf s (s.rising .cabAuthReq) .cabRequest w
  | .panel =>
    if s.panelIdle then
      returnIf s w.tau.reclaimPending .reclaimed (returnIf s (s.rising .cabAuthReq) .cabRequest w)
    else if s.rising .cabAuthReq then holdReclaim s w
    else w
  | _ => w

/-- The resume hold ends with the panel throttle at idle (R144). -/
def releaseHold (s : State) (w : TauWork) : TauWork :=
  if w.tau.state = .panel ∧ s.panelIdle then { w with tau := { w.tau with resumeHold := false } } else w

/-- An ISU publication (R139 to R144). An edge of PANEL_AUTH_REQ is taken in the state the event finds, also where the
same publication moves the state: the model's choice (log entry 56). A condition of R141 is looked for before the
completion test of R140, so an edge of CAB_AUTH_REQ in TO_PANEL returns authority where the test holds too: the model's
choice (log entry 60). -/
def tauInputs (s : State) (w : TauWork) : TauWork :=
  let found := w.tau.state
  let w := cabRequest s (driveLeft s w)
  let w := if s.rising .panelAuthReq ∧ found = w.tau.state then panelRequest s w else w
  complete s (releaseHold s w)

/-- A DEU publication (R141). -/
def tauDrives (s : State) (w : TauWork) : TauWork := complete s (driveLeft s w)

/-- An LKU publication of a change in the PANEL_AUTHORITY effect (R141). -/
def tauLockouts (s : State) (w : TauWork) : TauWork :=
  complete s (driveLeft s (returnIf s (s.effective .panelAuthority) .lockedOut w))

/-- One post or withdrawal of a cut demand (R137). -/
def cutOp (cuts : List Cut) : SetOp Cut → List Cut
  | .post c => if cuts.contains c then cuts else cuts ++ [c]
  | .withdraw c => cuts.filter fun x => x != c

/-- A DRIVE_RELEASE member. -/
def Cut.isRelease : Cut → Bool
  | .driveRelease _ => true
  | _ => false

/-- Posts and withdrawals taken in order, with those that change the set. -/
def takeCuts : List Cut → List (SetOp Cut) → List Cut × List (SetOp Cut)
  | cuts, [] => (cuts, [])
  | cuts, op :: rest =>
    let after := cutOp cuts op
    let (final, changes) := takeCuts after rest
    (final, if after = cuts then changes else op :: changes)

/-- The posts and withdrawals of a neighbour's event (R137, R141, R144). A DRIVE_RELEASE comes before the
drive leaves ENGAGED (R77), so its own cause is looked for first. -/
def tauCuts (s : State) (ops : List (SetOp Cut)) (w : TauWork) : TauWork :=
  let (cuts, changes) := takeCuts w.tau.cuts ops
  let releases := changes.any fun o => o.isPost && o.member.isRelease
  let hold := w.tau.state = .panel && (!w.tau.cuts.isEmpty && cuts.isEmpty)
  let w := { w with
    tau := { w.tau with
      cuts := cuts, resumeHold := if hold then !s.panelIdle else w.tau.resumeHold }
    cutChanges := changes }
  complete s (driveLeft s (returnIf s releases .driveRelease w))

/-- The transfer timer expires (R140, R143). -/
def tauTransferExpired (w : TauWork) : TauWork :=
  match w.tau.state with
  | .toPanel => arrive .cab .notIdle w
  | .toCab => arrive .cab .forced w
  | _ => w

/-- The reclaim timer expires (R141, R142). -/
def tauReclaimExpired (s : State) (w : TauWork) : TauWork :=
  let w := driveLeft s { w with tau := { w.tau with reclaim := .stopped } }
  complete s (returnIf s true .reclaimForced w)

/-- RECLAIM AUTHORITY (R142). In TO_CAB the request changes nothing of its own, but as an event of the TAU it makes
the completion test of R143, which is the model's choice (log entry 40). -/
def bodyReclaim (s : State) (w : TauWork) : TauWork :=
  if w.tau.state = .cab then { w with status := .refused .state }
  else complete s (returnIf s true .hostReclaim (driveLeft s w))

/-! ## The end of a TAU event -/

/-- DO4 and DO5 (R138). -/
def tauOutputs (t : Tau) : Tau :=
  { t with
    do4 := t.state != .cab || !t.cuts.isEmpty
    do5 := t.state = .panel && t.cuts.isEmpty && !t.resumeHold }

/-- The flags of the authority record (R190). -/
def tauFlags (t : Tau) : Nat := bit 0 t.resumeHold + bit 1 t.reclaimPending + bit 2 t.do4 + bit 3 t.do5

/-- An AUTHORITY notice (R145, R191). -/
def tauNotice (before after : Tau) (cause : AuthCause) (second : Option AuthCause) (extra : Option Nat) :
    News :=
  ⟨.authority, byte (authCauseCode cause),
    [byte (authorityCode before.state), byte (authorityCode after.state), opt8 (second.map authCauseCode),
      byte after.cuts.length, byte (tauFlags after), opt8 extra]⟩

/-- The notice of a change of state: from the first state to the last, with the causes of both changes. -/
def stateNews (before after : Tau) (causes : List AuthCause) : List News :=
  match causes with
  | [] => []
  | c :: rest => [tauNotice before after c rest.head? none]

/-- The AUTHORITY notices of an event, in the order of R145's table. -/
def tauNews (before : Tau) (w : TauWork) : List News :=
  let after := w.tau
  stateNews before after w.causes ++
  (match w.denied with
    | some reason => [tauNotice before after .denied none (some reason)]
    | none => []) ++
  (if w.held then [tauNotice before after .reclaimHeld none none] else []) ++
  w.cutChanges.map (fun o =>
    tauNotice before after (if o.isPost then .cutPosted else .cutWithdrawn) none (some (cutCode o.member))) ++
  (if before.resumeHold = after.resumeHold then []
    else [tauNotice before after (if after.resumeHold then .resumeHoldOn else .resumeHoldOff) none none])

/-- The record as it is published, less its timers (R135). -/
def Tau.published (t : Tau) : Tau :=
  { t with transferPurpose := none, transfer := .stopped, reclaim := .stopped }

/-- What a TAU event hands over (R135, R145). -/
def tauOut (before : Tau) (w : TauWork) : Out where
  news := tauNews before w
  events := if before.published = w.tau.published then [] else [(.lku, .authority)]

/-- The outputs follow the record. -/
def TauWork.settled (w : TauWork) : TauWork := { w with tau := tauOutputs w.tau }

def State.tauCommit (s : State) (w : TauWork) : State :=
  { s with tau := w.settled.tau }.emit (tauOut s.tau w.settled)

/-- The Throttle Authority Unit takes an event with the body given. -/
def State.tauTakes (s : State) (body : TauWork → TauWork) : State := s.tauCommit (body { tau := s.tau })

/-- An event handed to the Throttle Authority Unit. -/
def State.tauEvent (s : State) : Event → State
  | .inputs => s.tauTakes (tauInputs s)
  | .drives => s.tauTakes (tauDrives s)
  | .lockouts changed =>
    if changed.contains .panelAuthority then s.tauTakes (tauLockouts s) else s
  | .cuts ops => s.tauTakes (tauCuts s ops)
  | _ => s

end Sys2Proof.Machine
end

