-- ==== Sys2Proof/Machine/Recorder.lean ====
section
/-! DEFINITION. The Duty Recorder (R147 to R164): accumulators, records, the staging queue and the ring. -/

namespace Sys2Proof.Machine

/-- The largest value of a four-byte accumulator (R148). -/
def top32 : Nat := 4294967295

/-- A DRC event under way: the unit, the port operation it asks for, its notices, a reply it forms and
whether it reports ready for a soft restart (R156). -/
structure DrcWork where
  drc : Drc
  ask : Option PortOp := none
  news : List News := []
  reply : Option (List Byte) := none
  ready : Bool := false
  deriving DecidableEq, Repr

/-! ## Records as bytes (R192) -/

def recordKindCode : RecordBody → Nat
  | .sync _ _ => 1
  | .engage _ _ _ => 2
  | .release _ _ => 3
  | .driveFault _ _ _ _ => 4
  | .protection _ _ _ _ _ _ => 5
  | .overrideStart _ _ _ _ _ => 6
  | .overrideEnd _ _ _ _ => 6
  | .band _ _ _ _ _ _ => 7
  | .supply _ _ _ => 8
  | .profileApplied _ _ => 9
  | .hostMark _ => 10
  | .lost _ => 11

/-- The SYNC body (R192). -/
def syncBody (a : Accumulators) : List Byte :=
  be32 a.mainRunS ++ be32 a.auxRunS ++ be32 a.rollM ++ be32 a.waterL ++
    be16 a.engagementsMain ++ be16 a.engagementsAux

/-- A record's body before its fill, given the accumulators a SYNC takes (8.3.1, R192; the sizes are the model's
choice, log entry 15, and so are the truncation of an ENGAGE record's time to milliseconds and the 16 characters that
stand for the name in part). A DRY_RUN trip's condition found stands behind its cause (R106). -/
def recordBody (a : Accumulators) : RecordBody → List Byte
  | .sync _ _ => syncBody a
  | .engage d rpm elapsed => byte (driveCode d) :: (opt16 rpm ++ be32 (elapsed / 1000))
  | .release d fromFaulted => [byte (driveCode d), flag fromFaulted]
  | .driveFault d k before position =>
    [byte (driveCode d), byte (faultCode k), byte (driveStateCode before), byte position]
  | .protection p k trip value c condition =>
    [byte (driveCode p), byte (watchCode k), if trip then 0#8 else 1#8] ++ opt16s value ++
      byte (watchCauseCode c) :: (condition.map byte).toList
  | .overrideStart n t seconds active restart =>
    [byte n, byte (targetCode t)] ++ be16 seconds ++ [flag active, flag restart]
  | .overrideEnd n t reason active =>
    [byte n, byte (targetCode t), byte (endReasonCode reason), flag active, 0xFF#8]
  | .band t before after dir u q =>
    [byte (tankCode t), byte (bandCode before), byte (bandCode after), byte (directionCode dir)] ++
      opt16u u ++ [byte (qualityCode q)]
  | .supply before after mv => [byte (supplyCode before), byte (supplyCode after)] ++ be16 mv
  | .profileApplied version name => be16 version ++ name
  | .hostMark text => text
  | .lost n => be16 n

def recordFlags (r : Record) : Nat :=
  bit 0 r.unsynced +
    match r.body with
    | .sync c _ => 2 * syncCauseCode c
    | _ => 0

/-- The 32 bytes of a record written under a sequence number. -/
def recordBytes (sequence : Nat) (a : Accumulators) (r : Record) : List Byte :=
  let covered := be32 sequence ++ be32 r.time ++ [byte (recordKindCode r.body), byte (recordFlags r)] ++
    padTo 20 (recordBody a r.body)
  covered ++ crcBytes covered

/-- A slot holds a valid record (R153). -/
def slotValid (bs : List Byte) : Bool :=
  decide (bs.drop 30 = crcBytes (bs.take 30)) && decide (1 ≤ rd8 bs 8) && decide (rd8 bs 8 ≤ 11) &&
    rd32 bs 0 != 0 && rd32 bs 0 != 4294967295

/-- The accumulators a SYNC slot holds. -/
def accumulatorsOf (bs : List Byte) : Accumulators :=
  ⟨rd32 bs 10, rd32 bs 14, rd32 bs 18, rd32 bs 22, rd16 bs 26, rd16 bs 28⟩

/-! ## Accumulators (R148 to R151) -/

/-- The accumulators take a value; the changed flag is set when it differs (R148). -/
def Drc.accumulate (d : Drc) (a : Accumulators) : Drc :=
  { d with acc := a, changed := d.changed || a != d.acc }

def Drc.addRun (d : Drc) (drive : Drive) : Drc :=
  let r := d.runRemainder.get drive + 50
  if r < 1000 then { d with runRemainder := d.runRemainder.set drive r }
  else
    let d := { d with runRemainder := d.runRemainder.set drive (r - 1000) }
    match drive with
    | .main => d.accumulate { d.acc with mainRunS := saturate top32 (d.acc.mainRunS + 1) }
    | .aux => d.accumulate { d.acc with auxRunS := saturate top32 (d.acc.auxRunS + 1) }

/-- One gauge publication of run time (R149). -/
def drcRun (s : State) (drive : Drive) (d : Drc) : Drc := if s.turning drive then d.addRun drive else d

/-- One gauge publication of distance (R149). -/
def drcDistance (s : State) (d : Drc) : Drc :=
  if s.driveState .aux = .rolling then
    let r := d.distRemainder + ((s.pulse .road).speed).getD 0
    ({ d with distRemainder := r % 720 } : Drc).accumulate
      { d.acc with rollM := saturate top32 (d.acc.rollM + r / 720) }
  else d

/-- The low-water mark counts a draw (R151). -/
def drcDraw (m v : Int) (d : Drc) : Drc :=
  if v < m then
    ({ d with lowWater := some v } : Drc).accumulate
      { d.acc with waterL := saturate top32 (d.acc.waterL + (m - v).toNat) }
  else d

/-- One gauge publication of water drawn (R151). -/
def drcWater (s : State) (d : Drc) : Drc :=
  let g := s.tgu.gauges.t0
  let known : Bool := g.quality != .unknown
  let setNow := known && (d.lowWater.isNone || !d.t0Known)
  let counts := known && s.drawnFrom .t0 && s.lbu.valve.state != .opened
  let d' := { d with t0Known := known }
  if setNow then { d' with lowWater := g.v }
  else match counts, d.lowWater, g.v with
    | true, some m, some v => drcDraw m v d'
    | _, _, _ => d'

def drcGauges (s : State) (w : DrcWork) : DrcWork :=
  { w with drc := drcWater s (drcDistance s (drcRun s .aux (drcRun s .main w.drc))) }

/-- The valve leaves OPEN (R151). -/
def drcLevels (s : State) (leftOpen : Bool) (w : DrcWork) : DrcWork :=
  if leftOpen then { w with drc := { w.drc with lowWater := s.tgu.gauges.t0.v } } else w

/-- An apply completes (R151, R164). -/
def drcConf (before after : Conf) (w : DrcWork) : DrcWork :=
  match before, after with
  | .applying, .configured => { w with drc := { w.drc with lowWater := none } }
  | _, _ => w

/-! ## Staging (R155, R156) -/

/-- A record stamped now (R152). -/
def State.stamp (s : State) (body : RecordBody) : Record := ⟨s.seconds, !s.drc.timeBase.synced, body⟩

def Drc.loseOne (d : Drc) : Drc := { d with lostCount := saturate 65535 (d.lostCount + 1) }

/-- A record joins the tail, or is lost (R155, R159). -/
def Drc.stage (r : Record) (d : Drc) : Drc :=
  if d.state = .failed then d.loseOne
  else if d.queue.length < stagingCapacity then { d with queue := d.queue ++ [r] }
  else d.loseOne

/-- An ENGAGE record handed over counts an engagement, staged or not (R150). -/
def Drc.countEngagement (body : RecordBody) (d : Drc) : Drc :=
  match body with
  | .engage .main _ _ =>
    d.accumulate { d.acc with engagementsMain := saturate 65535 (d.acc.engagementsMain + 1) }
  | .engage .aux _ _ =>
    d.accumulate { d.acc with engagementsAux := saturate 65535 (d.acc.engagementsAux + 1) }
  | _ => d

/-- Records handed over by a neighbour, in order. -/
def drcRecords (s : State) (bodies : List RecordBody) (w : DrcWork) : DrcWork :=
  { w with drc := bodies.foldl (fun d b => (d.countEngagement b).stage (s.stamp b)) w.drc }

def RecordBody.isSync : RecordBody → Bool
  | .sync _ _ => true
  | _ => false

def RecordBody.isLost : RecordBody → Bool
  | .lost _ => true
  | _ => false

/-- The record carries the mark of a soft restart (R156). -/
def RecordBody.marked : RecordBody → Bool
  | .sync _ m => m
  | _ => false

/-- How many records at the front are under write. -/
def Drc.underWrite (d : Drc) : Nat :=
  match d.write with
  | some w => if w.fromQueue then 1 else 0
  | none => 0

/-- The records waiting behind the one under write. -/
def Drc.waiting (d : Drc) : List Record := d.queue.drop d.underWrite

/-- The last element that passes is taken out of a list, with what is left. -/
def takeLast (p : Record → Bool) (rs : List Record) : Option (Record × List Record) :=
  match rs with
  | [] => none
  | r :: rest =>
    match takeLast p rest with
    | some (x, left) => some (x, r :: left)
    | none => if p r then some (r, rest) else none

/-- Room for a SYNC in a full queue: the waiting records left, and how many records that loses (R156). -/
def makeRoom (rs : List Record) : List Record × Nat :=
  match takeLast (fun r => !r.body.isLost) rs with
  | some (_, left) => (left, 1)
  | none => match takeLast (fun _ => true) rs with
    | some (⟨_, _, .lost n⟩, left) => (left, n + 1)
    | some (_, left) => (left, 1)
    | none => (rs, 0)

/-- A SYNC that waits takes the new cause (R156). A RESTART SYNC that a droop gives the cause DROOP keeps its mark, so
that the end of its write still reports ready to the Link Unit: the model's choice (log entry 63). -/
def recause (c : SyncCause) (mark : Bool) (r : Record) : Record :=
  match r.body with
  | .sync _ m => { r with body := .sync c (m || mark) }
  | _ => r

/-- A SYNC is placed behind any record under write (R156). -/
def Drc.placeSync (s : State) (c : SyncCause) (mark : Bool) (d : Drc) : Drc :=
  let front := d.queue.take d.underWrite
  match d.state, d.waiting.find? fun r => r.body.isSync with
  | .failed, _ => d.loseOne
  | _, some r =>
    { d with queue := front ++ recause c mark r :: d.waiting.filter fun x => !x.body.isSync }
  | _, none =>
    let fresh := s.stamp (.sync c mark)
    if d.queue.length < stagingCapacity then { d with queue := front ++ fresh :: d.waiting }
    else
      let (left, lost) := makeRoom d.waiting
      { d with
        queue := front ++ fresh :: left
        lostCount := saturate 65535 (d.lostCount + lost) }

/-- A supply state change (R156). -/
def drcSupply (s : State) (before after : SupplyState) (w : DrcWork) : DrcWork :=
  if before = .normal ∧ after = .droop then { w with drc := w.drc.placeSync s .droop false } else w

/-- The Link Unit informs the recorder of an accepted SOFT RESTART (R156). -/
def drcRestart (s : State) (w : DrcWork) : DrcWork :=
  { w with drc := w.drc.placeSync s .restart true, ready := w.ready || w.drc.state != .running }

/-- The SYNC timer expires (R154). -/
def drcSyncExpired (s : State) (w : DrcWork) : DrcWork :=
  let d := { w.drc with syncTimer := .started s.now syncPeriod }
  if d.changed && !d.waiting.any fun r => r.body.isSync then
    { w with drc := d.stage (s.stamp (.sync .timer false)) }
  else { w with drc := d }

/-! ## FAILED (R159) -/

/-- A RECORDER notice (R191): RECOVERED 0, EMPTY 1, FAILED 2, SLOT_SKIPPED 3. -/
def recorderNews (cause : Nat) (values : List Byte) : News := ⟨.recorder, byte cause, padTo 6 values⟩

/-- The recorder enters FAILED; a READ RECORDS in progress is refused, and an awaited RESTART SYNC is
reported ready (R156, R159, R160). The reason is 0 for NO_ANSWER and 1 for sequence numbers run out. -/
def enterFailed (reason : Nat) (w : DrcWork) : DrcWork :=
  let d := w.drc
  { w with
    drc := { d with
      state := .failed, syncTimer := .stopped, queue := [], write := none, read := none
      lostCount := saturate 65535 (d.lostCount + d.queue.length) }
    news := w.news ++ [recorderNews 2 [byte reason]]
    reply := if d.read.isSome then some (Status.refused .recorderFailed).bytes else w.reply
    ready := w.ready || d.queue.any fun r => r.body.marked }

/-! ## The ring (R153, R157) -/

def nextSlot (slot : Nat) : Nat := (slot + 1) % ringSlots

/-- The oldest present sequence once `n` is spent. -/
def oldestAfter (n : Nat) (oldest : Nat) : Nat := max oldest (n - (ringSlots - 1))

/-- A write ends, done or skipped: its record leaves the queue, and the head and the next sequence number
advance; numbers that run out enter FAILED (R153, R157, R159). -/
def leaveRing (rw : RingWrite) (oldest : Option Nat) (w : DrcWork) : DrcWork :=
  let d := w.drc
  let w := { w with
    drc := { d with
      queue := if rw.fromQueue then d.queue.drop 1 else d.queue
      write := none
      head := d.head.map nextSlot
      nextSeq := some (rw.sequence + 1)
      oldest := oldest }
    ready := w.ready || rw.restartMark }
  if lastSequence < rw.sequence + 1 then
    enterFailed 1 { w with drc := { w.drc with nextSeq := none } }
  else w

/-- The same bytes are asked for again (R157). -/
def rewrite (rw : RingWrite) (outcome : WriteEnd) (w : DrcWork) : DrcWork :=
  { w with
    drc := { w.drc with write := some { rw with last := some outcome } }
    ask := w.drc.head.map fun slot => .slotWrite slot rw.bytes }

/-- A ring slot write ends (R157). An outcome that comes again for the record after the other one is taken as a first
time, which is the model's choice (log entry 65). -/
def drcWriteEnd (outcome : WriteEnd) (w : DrcWork) : DrcWork :=
  match w.drc.write with
  | none => w
  | some rw =>
    let n := rw.sequence
    match outcome with
    | .equal => leaveRing rw (some (oldestAfter n (w.drc.oldest.getD n))) w
    | .different =>
      if rw.last = some .different then
        leaveRing rw (w.drc.oldest.map (oldestAfter n))
          { w with drc := w.drc.loseOne, news := w.news ++ [recorderNews 3 (be32 n)] }
      else rewrite rw .different w
    | .noAnswer => if rw.last = some .noAnswer then enterFailed 0 w else rewrite rw .noAnswer w

/-- The write of a record begins under the next sequence number (R154, R157). -/
def startWrite (s : State) (n : Nat) (r : Record) (fromQueue : Bool) (w : DrcWork) : DrcWork :=
  let d := w.drc
  let bytes := recordBytes n d.acc r
  let d := { d with write := some ⟨n, bytes, fromQueue, r.body.marked, none⟩ }
  let d := if r.body.isSync then
      { d with changed := false, syncTimer := .started s.now syncPeriod } else d
  { w with drc := d, ask := d.head.map fun slot => .slotWrite slot bytes }

/-- The recorder begins a write when it can; a cadence SYNC goes before a record that is no SYNC. -/
def beginWrite (s : State) (w : DrcWork) : DrcWork :=
  let d := w.drc
  match d.state, d.queue, d.nextSeq, d.write, d.read with
  | .running, r :: _, some n, none, none =>
    if n % 32 = 0 && !r.body.isSync then startWrite s n (s.stamp (.sync .cadence false)) false w
    else startWrite s n r true w
  | _, _, _, _, _ => w

/-- A LOST record reports what was lost, once there is room (R155). -/
def addLost (s : State) (w : DrcWork) : DrcWork :=
  let d := w.drc
  if 0 < d.lostCount ∧ d.queue.length < stagingCapacity ∧ d.state ≠ .failed then
    { w with drc := { d with queue := d.queue ++ [s.stamp (.lost d.lostCount)], lostCount := 0 } }
  else w

/-! ## Recovery (R158) -/

/-- What the scan knows after one more slot. -/
def scanSlot (sc : RingScan) (bs : List Byte) : RingScan :=
  if !slotValid bs then sc
  else
    let n := rd32 bs 0
    let newer := match sc.newest with
      | some (m, _) => decide (m < n)
      | none => true
    let newerSync := match sc.sync with
      | some (m, _) => decide (m < n)
      | none => true
    { sc with
      newest := if newer then some (n, sc.slot) else sc.newest
      lowest := some (match sc.lowest with
        | some m => min m n
        | none => n)
      sync := if rd8 bs 8 = 1 && newerSync then some (n, accumulatorsOf bs) else sc.sync }

/-- Accumulators added, each saturating (R148, R158). -/
def Accumulators.plus (a b : Accumulators) : Accumulators :=
  ⟨saturate top32 (a.mainRunS + b.mainRunS), saturate top32 (a.auxRunS + b.auxRunS),
   saturate top32 (a.rollM + b.rollM), saturate top32 (a.waterL + b.waterL),
   saturate 65535 (a.engagementsMain + b.engagementsMain),
   saturate 65535 (a.engagementsAux + b.engagementsAux)⟩

/-- The last slot has been read (R158). The distance of RECOVERED stops at 65,535, which is the model's choice (log
entry 41). Where the last number is found spent the recorder enters FAILED (log entry 20); that it then takes no head
and no oldest present number and produces FAILED alone is the model's choice too (log entry 58). -/
def finishRecovery (sc : RingScan) (w : DrcWork) : DrcWork :=
  let d := { w.drc with scan := sc }
  let n := sc.newest.map (·.1)
  if decide (lastSequence ≤ n.getD 0) then enterFailed 1 { w with drc := d }
  else
    let acc := match sc.sync with
      | some (_, a) => d.acc.plus a
      | none => d.acc
    let news := match sc.sync, n with
      | some (m, _), some n => recorderNews 0 (be32 n ++ be16 (saturate 65535 (n - m)))
      | _, n => recorderNews 1 (opt32 n)
    { w with
      drc := { d with
        state := .running
        acc := acc
        restored := sc.sync.isSome
        changed := acc != ⟨0, 0, 0, 0, 0, 0⟩
        head := some (match sc.newest with
          | some (_, slot) => nextSlot slot
          | none => 0)
        nextSeq := some (n.getD 0 + 1)
        oldest := sc.lowest }
      news := w.news ++ [news] }

/-- A slot read of the recovery scan ends (R158). -/
def drcScanEnd (outcome : SlotEnd) (w : DrcWork) : DrcWork :=
  let sc := w.drc.scan
  match outcome with
  | .noAnswer =>
    if sc.again then enterFailed 0 w
    else { w with drc := { w.drc with scan := { sc with again := true } }, ask := some (.slotRead sc.slot) }
  | .done bytes =>
    let sc := { scanSlot sc bytes.toList with again := false }
    if sc.slot + 1 < ringSlots then
      { w with
        drc := { w.drc with scan := { sc with slot := sc.slot + 1 } }
        ask := some (.slotRead (sc.slot + 1)) }
    else finishRecovery sc w

/-! ## READ RECORDS (R160) -/

/-- The slot of a sequence number in the ring's fixed order (R153). -/
def slotOf (head next n : Nat) : Nat := (head + ringSlots - (next - n) % ringSlots) % ringSlots

/-- The newest sequence number written, 0 when there is none. -/
def Drc.newest (d : Drc) : Nat := (d.nextSeq.getD 1) - 1

/-- The read of the entry at the cursor is asked for. -/
def askRead (d : Drc) (n : Nat) : Option PortOp :=
  match d.head, d.nextSeq with
  | some head, some next => some (.slotRead (slotOf head next n))
  | _, _ => none

/-- The range test and the first read, once no write of the recorder's own is in progress. -/
def issueRead (w : DrcWork) : DrcWork :=
  let d := w.drc
  match d.read, d.write with
  | some r, none =>
    if r.issued then w
    else if d.oldest.isNone ∨ r.sequence < d.oldest.getD 0 ∨ d.newest < r.sequence then
      { w with
        drc := { d with read := none }
        reply := some (Status.refused (.notInRing (d.oldest.getD 0) d.newest)).bytes }
    else
      { w with
        drc := { d with read := some { r with
          issued := true, cursor := r.sequence, last := min (r.sequence + r.count - 1) d.newest } }
        ask := askRead d r.sequence }
  | _, _ => w

/-- The reply of a READ RECORDS whose reads have ended (R160, R190). The MISSING flags have the i-th entry of the reply,
from 0, in bit i: R190 gives no bit places, and these are the model's choice (log entry 19). -/
def recordsReply (d : Drc) (entries : List (Option (List Byte))) : List Byte :=
  let missing := ((List.range 3).zip entries).foldl (fun m (i, e) => m + bit i e.isNone) 0
  Status.ok.bytes ++ be32 (d.oldest.getD 0) ++ be32 d.newest ++ [byte entries.length, byte missing] ++
    (entries.map fun e => padTo 32 (e.getD [])).flatten

/-- A slot read of a READ RECORDS ends. -/
def drcReadEnd (outcome : SlotEnd) (r : RingRead) (w : DrcWork) : DrcWork :=
  let d := w.drc
  match outcome with
  | .noAnswer =>
    if r.again then enterFailed 0 w
    else { w with drc := { d with read := some { r with again := true } }, ask := askRead d r.cursor }
  | .done bytes =>
    let bs := bytes.toList
    let entry := if slotValid bs && rd32 bs 0 = r.cursor then some bs else none
    let entries := r.entries ++ [entry]
    if r.cursor < r.last then
      { w with
        drc := { d with read := some { r with again := false, entries := entries, cursor := r.cursor + 1 } }
        ask := askRead d (r.cursor + 1) }
    else { w with drc := { d with read := none }, reply := some (recordsReply d entries) }

/-- A ring slot read ends (R158, R160). -/
def drcSlotReadEnd (outcome : SlotEnd) (w : DrcWork) : DrcWork :=
  match w.drc.state, w.drc.read with
  | .recovering, _ => drcScanEnd outcome w
  | _, some r => drcReadEnd outcome r w
  | _, none => w

/-! ## Requests (R160 to R163) -/

def bodyReadRecords (sequence count : Nat) (w : DrcWork) : DrcWork :=
  if count < 1 ∨ 3 < count then { w with reply := some Status.badValue.bytes }
  else match w.drc.state with
    | .recovering => { w with reply := some Status.busy.bytes }
    | .failed => { w with reply := some (Status.refused .recorderFailed).bytes }
    | .running =>
      { w with drc := { w.drc with read := some ⟨sequence, count, false, sequence, sequence, false, []⟩ } }

/-- GET ACCUMULATORS (R161, R190). The SYNC timer reads its remaining seconds truncated, and absent while it is
stopped, which is the model's choice (log entry 42). -/
def accumulatorsReply (s : State) : List Byte :=
  let d := s.drc
  syncBody d.acc ++ [byte (recorderCode d.state), flag d.restored] ++ be16 d.lostCount ++
    [byte d.queue.length] ++ be32 (d.nextSeq.getD 0) ++ be32 (d.oldest.getD 0) ++ be32 s.seconds ++
    [flag d.timeBase.synced] ++
    (match d.syncTimer with
      | .stopped => opt16 none
      | t => be16 (t.secondsLeft s.now))

/-- MARK RECORD (R162). -/
def bodyMark (s : State) (text : List Byte) (w : DrcWork) : DrcWork :=
  if w.drc.state = .failed then { w with reply := some (Status.refused .recorderFailed).bytes }
  else if stagingCapacity ≤ w.drc.queue.length then { w with reply := some Status.busy.bytes }
  else { w with drc := w.drc.stage (s.stamp (.hostMark text)), reply := some Status.ok.bytes }

/-- SET TIME (R163). The second set begins at the request itself, which is the model's choice (log entry 57). -/
def bodySetTime (s : State) (seconds : Nat) (w : DrcWork) : DrcWork :=
  if seconds = 0 then { w with reply := some Status.badValue.bytes }
  else { w with drc := { w.drc with timeBase := ⟨seconds, s.now, true⟩ }, reply := some Status.ok.bytes }

/-! ## The end of a DRC event -/

/-- The LOST record, a READ RECORDS that waited for a write, and the next write (R155, R157, R160). -/
def drcEnd (s : State) (w : DrcWork) : DrcWork := beginWrite s (issueRead (addLost s w))

/-- What a DRC event hands over. -/
def drcOut (w : DrcWork) : Out where
  news := w.news
  events :=
    (match w.reply with
      | some body => [(.lnk, .reply body)]
      | none => []) ++
    (if w.ready then [(.lnk, .restartReady)] else [])

def State.drcCommit (s : State) (w : DrcWork) : State :=
  { s with drc := w.drc, port := s.port.ask .drc w.ask }.emit (drcOut w)

/-- The Duty Recorder takes an event with the body given. -/
def State.drcTakes (s : State) (body : DrcWork → DrcWork) : State :=
  s.drcCommit (drcEnd s (body { drc := s.drc }))

/-- An event handed to the Duty Recorder. -/
def State.drcEvent (s : State) : Event → State
  | .gauges => s.drcTakes (drcGauges s)
  | .records bodies => s.drcTakes (drcRecords s bodies)
  | .drives => s.drcTakes id
  | .levels _ valveChanged leftOpen => if valveChanged then s.drcTakes (drcLevels s leftOpen) else s
  | .supply before after => s.drcTakes (drcSupply s before after)
  | .conf before after => s.drcTakes (drcConf before after)
  | .restartAsked => s.drcTakes (drcRestart s)
  | _ => s

end Sys2Proof.Machine
end

