-- ==== Sys2Proof/Machine/ProfileUnit.lean ====
section
/-! DEFINITION. The Profile Unit (R178 to R186): loading and applying a profile, the edit image, and the
supply monitor. -/

namespace Sys2Proof.Machine

/-- A PFU event under way: the unit, the port operation it asks for, what it hands over and a reply. -/
structure PfuWork where
  pfu : Pfu
  ask : Option PortOp := none
  news : List News := []
  events : List (Block × Event) := []
  reply : Option (List Byte) := none
  deriving DecidableEq, Repr

/-- The last of the 64 profile pages. -/
def lastPage : Nat := 63

/-- The blocks that act on a change of the configuration state (R180). -/
def confBlocks : List Block := [.isu, .tgu, .lbu, .deu, .ppu, .lku, .drc]

/-- The configuration state changes and is published (R180). -/
def PfuWork.enter (w : PfuWork) (c : Conf) : PfuWork :=
  { w with
    pfu := { w.pfu with conf := c }
    events := w.events ++ toBlocks confBlocks (.conf w.pfu.conf c) }

/-! ## PROFILE notices (R181, R184, R191) -/

/-- A PROFILE notice: LOADED 0, UNCONFIGURED 1, APPLIED 2, FAILED 3. -/
def profileNews (cause : Nat) (values : List Byte) : News := ⟨.profile, byte cause, padTo 6 values⟩

/-- A finding as the notice carries it: CRC 0, INVALID 1, MEMORY 2, with what it does not name absent. -/
def findingBytes : Finding → List Byte
  | .crc n => [0#8, byte n] ++ opt16 none
  | .invalid n off => [1#8, byte n] ++ be16 off
  | .memory => [2#8, 0xFF#8] ++ opt16 none

/-! ## Loading (R181) -/

/-- The load ends with a finding, or with none. -/
def endLoad (finding : Option Finding) (w : PfuWork) : PfuWork :=
  let p := w.pfu
  let p := { p with edit := p.active, task := .idle }
  match finding with
  | none =>
    let prof := profileOf p.active
    ({ w with
      pfu := { p with inUse := some prof }
      news := w.news ++ [profileNews 0 (be16 prof.version)] } : PfuWork).enter .configured
  | some f =>
    ({ w with
      pfu := { p with inUse := none }
      news := w.news ++ [profileNews 1 (findingBytes f)] } : PfuWork).enter .unconfigured

/-- A page read of a load ends. -/
def loadPage (page : Nat) (again : Bool) (outcome : PageEnd) (w : PfuWork) : PfuWork :=
  match outcome with
  | .noAnswer =>
    if again then endLoad (some .memory) { w with pfu := { w.pfu with active := [] } }
    else { w with pfu := { w.pfu with task := .load page true }, ask := some (.pageRead page) }
  | .done bytes =>
    let active := w.pfu.active.writeList (pageAddress page) bytes.toList
    let w := { w with pfu := { w.pfu with active := active } }
    if page < lastPage then
      { w with pfu := { w.pfu with task := .load (page + 1) false }, ask := some (.pageRead (page + 1)) }
    else endLoad (validate active) w

/-! ## PROFILE READ of the memory (R182) -/

/-- The bytes asked for, out of the pages read. -/
def cutOut (address count : Nat) (bytes : List Byte) : List Byte :=
  (bytes.drop (address % pageSize)).take count

/-- A page read of a PROFILE READ ends. -/
def readPage (address count page : Nat) (again : Bool) (sofar : List Byte) (outcome : PageEnd)
    (w : PfuWork) : PfuWork :=
  match outcome with
  | .noAnswer =>
    if again then
      { w with pfu := { w.pfu with task := .idle }, reply := some Status.busy.bytes }
    else
      { w with
        pfu := { w.pfu with task := .read address count page true sofar }, ask := some (.pageRead page) }
  | .done bytes =>
    let sofar := sofar ++ bytes.toList
    if page < (address + count - 1) / pageSize then
      { w with
        pfu := { w.pfu with task := .read address count (page + 1) false sofar }
        ask := some (.pageRead (page + 1)) }
    else
      { w with
        pfu := { w.pfu with task := .idle }
        reply := some (Status.ok.bytes ++ cutOut address count sofar) }

/-- A profile page read ends (R181, R182). -/
def pfuReadEnd (outcome : PageEnd) (w : PfuWork) : PfuWork :=
  match w.pfu.task with
  | .load page again => loadPage page again outcome w
  | .read address count page again sofar => readPage address count page again sofar outcome w
  | _ => w

/-! ## Applying (R183, R184) -/

/-- The write of a page of the edit image. -/
def pageOf (m : Memory) (page : Nat) : PortOp := .pageWrite page (m.slice (pageAddress page) pageSize)

/-- An apply completes (R184). -/
def completeApply (w : PfuWork) : PfuWork :=
  let p := w.pfu
  let prof := profileOf p.edit
  ({ w with
    pfu := { p with active := p.edit, inUse := some prof, task := .idle }
    news := w.news ++ [profileNews 2 (be16 prof.version)]
    events := w.events ++ [(.drc, .records [.profileApplied prof.version prof.name])] } : PfuWork).enter
    .configured

/-- An apply fails at a page, and the load of R181 follows (R184). -/
def failApply (page : Nat) (w : PfuWork) : PfuWork :=
  ({ w with
    pfu := { w.pfu with inUse := none, task := .load 0 false }
    news := w.news ++ [profileNews 3 (be16 (pageAddress page))]
    ask := some (.pageRead 0) } : PfuWork).enter .loading

/-- A profile page write ends (R183, R184). -/
def pfuWriteEnd (outcome : WriteEnd) (w : PfuWork) : PfuWork :=
  match w.pfu.task with
  | .apply page again =>
    if outcome = .equal then
      if page < lastPage then
        { w with
          pfu := { w.pfu with task := .apply (page + 1) false }
          ask := some (pageOf w.pfu.edit (page + 1)) }
      else completeApply w
    else if again then failApply page w
    else
      { w with pfu := { w.pfu with task := .apply page true }, ask := some (pageOf w.pfu.edit page) }
  | _ => w

/-! ## Requests (R182, R183) -/

/-- Answered with a status alone. -/
def PfuWork.says (w : PfuWork) (st : Status) : PfuWork := { w with reply := some st.bytes }

/-- LOADING or APPLYING. -/
def Conf.busy : Conf → Bool
  | .loading => true
  | .applying => true
  | _ => false

/-- PROFILE WRITE (R182). -/
def bodyProfileWrite (s : State) (sect offset : Nat) (bytes : List Byte) (w : PfuWork) : PfuWork :=
  if !s.level .serviceKey then w.says .keyNeeded
  else if w.pfu.conf.busy then w.says .busy
  else match sectionPlace sect with
    | none => w.says .badValue
    | some p =>
      if p.size < offset + bytes.length then w.says .badValue
      else
        ({ w with pfu := { w.pfu with
          edit := w.pfu.edit.writeList (p.address + offset) bytes } } : PfuWork).says .ok

/-- PROFILE DISCARD (R182). -/
def bodyProfileDiscard (w : PfuWork) : PfuWork :=
  if w.pfu.conf.busy then w.says .busy
  else ({ w with pfu := { w.pfu with edit := w.pfu.active } } : PfuWork).says .ok

/-- PROFILE READ (R182). A bad source, section, range or count is answered before BUSY in LOADING, which is the
model's choice (log entry 39). -/
def bodyProfileRead (source sect offset count : Nat) (w : PfuWork) : PfuWork :=
  match sectionPlace sect with
  | none => w.says .badValue
  | some p =>
    if 1 < source ∨ count < 1 ∨ 112 < count ∨ p.size + 2 < offset + count then w.says .badValue
    else if w.pfu.conf = .loading then w.says .busy
    else if source = 1 then
      { w with reply := some (Status.ok.bytes ++ w.pfu.edit.slice (p.address + offset) count) }
    else if w.pfu.conf = .applying then w.says .busy
    else
      let address := p.address + offset
      let page := address / pageSize
      { w with
        pfu := { w.pfu with task := .read address count page false [] }
        ask := some (.pageRead page) }

/-- PROFILE APPLY (R183). -/
def bodyProfileApply (s : State) (w : PfuWork) : PfuWork :=
  if !s.level .serviceKey then w.says .keyNeeded
  else if w.pfu.conf.busy then w.says .busy
  else if !s.bothDisengaged then w.says (.refused .driveActive)
  else
    let edit := writeCrcs w.pfu.edit
    let w := { w with pfu := { w.pfu with edit := edit } }
    match fieldFinding edit with
    | some (.invalid n off) => w.says (.refused (.invalid n off))
    | _ =>
      (({ w with
        pfu := { w.pfu with task := .apply 0 false }
        ask := some (pageOf edit 0) } : PfuWork).enter .applying).says .accepted

/-! ## The supply monitor (R185) -/

/-- A count of consecutive publications, held at 2. -/
def countRun (holds : Bool) (n : Nat) : Nat := if holds then saturate 2 (n + 1) else 0

/-- A SUPPLY notice (R185, R191). -/
def supplyNews (before after : SupplyState) (mv : Nat) : News :=
  ⟨.supply, byte (supplyCode after), byte (supplyCode before) :: (be16 mv ++ [0#8, 0#8, 0#8])⟩

/-- At a droop the recorder takes the publication, and with it the DROOP SYNC, before the SUPPLY record: the
free choice that R156 leaves, which `schedule` makes by naming the Profile Unit (log entry 3). -/
def State.droopFirst (s : State) (after : SupplyState) : Bool :=
  after = .droop && s.schedule.head? = some .pfu

/-- The supply state changes: it is published, with its notice and its record. -/
def PfuWork.supplyTo (w : PfuWork) (s : State) (after : SupplyState) (timer : Timer) : PfuWork :=
  let before := w.pfu.supply
  let mv := s.isu.pub.supplyMv
  let recorded := (before = .normal && after = .droop) || after = .normal
  let record := if recorded then [(Block.drc, Event.records [.supply before after mv])] else []
  let published := toBlocks [.deu, .lku, .drc] (.supply before after)
  { w with
    pfu := { w.pfu with supply := after, recovery := timer }
    news := w.news ++ [supplyNews before after mv]
    events := w.events ++ (if s.droopFirst after then published ++ record else record ++ published) }

/-- The supply voltage published (R185). -/
def pfuInputs (s : State) (w : PfuWork) : PfuWork :=
  let mv := s.isu.pub.supplyMv
  let low := countRun (decide (mv < 8500)) w.pfu.lowCount
  let high := countRun (decide (10500 ≤ mv)) w.pfu.highCount
  let w := { w with pfu := { w.pfu with lowCount := low, highCount := high } }
  match w.pfu.supply with
  | .droop => if high = 2 then w.supplyTo s .recovering (.started s.now recoveryTime) else w
  | .recovering => if low = 2 then w.supplyTo s .droop .stopped else w
  | .normal => if low = 2 then w.supplyTo s .droop .stopped else w

/-- The recovery timer expires (R185). -/
def pfuRecoveryExpired (s : State) (w : PfuWork) : PfuWork :=
  if w.pfu.supply = .recovering then w.supplyTo s .normal .stopped
  else { w with pfu := { w.pfu with recovery := .stopped } }

/-! ## The end of a PFU event -/

/-- What a PFU event hands over. -/
def pfuOut (w : PfuWork) : Out where
  news := w.news
  events :=
    (match w.reply with
      | some body => [(.lnk, .reply body)]
      | none => []) ++ w.events

def State.pfuCommit (s : State) (w : PfuWork) : State :=
  { s with pfu := w.pfu, port := s.port.ask .pfu w.ask }.emit (pfuOut w)

/-- The Profile Unit takes an event with the body given. -/
def State.pfuTakes (s : State) (body : PfuWork → PfuWork) : State := s.pfuCommit (body { pfu := s.pfu })

/-- An event handed to the Profile Unit. -/
def State.pfuEvent (s : State) : Event → State
  | .inputs => s.pfuTakes (pfuInputs s)
  | _ => s

end Sys2Proof.Machine
end

