-- ==== Sys2Proof/WellFormed.lean ====
section
/-! DEFINITION. Which commands are well formed. The fixed-width operands carry their widths in their
types; what is left to check is the two operands of free length and the kind of an UNKNOWN_KIND. -/

namespace Sys2Proof

/-- The kinds of the request table (R190). -/
def requestKinds : List Byte :=
  [0x01#8, 0x02#8, 0x03#8, 0x04#8, 0x05#8, 0x10#8, 0x11#8, 0x18#8, 0x19#8, 0x1A#8, 0x20#8, 0x21#8,
   0x22#8, 0x23#8, 0x28#8, 0x29#8, 0x2A#8, 0x2B#8, 0x30#8, 0x31#8, 0x32#8, 0x33#8, 0x3F#8]

/-- An UNKNOWN_KIND names a kind outside the request table (R168) and fits a frame (R189);
a PROFILE_WRITE carries 1 to 112 bytes (R182). -/
def Instr.wellFormed : Instr → Bool
  | .unknownKind _ _ kind body => !requestKinds.contains kind && body.length ≤ 120
  | .profileWrite _ _ _ _ bytes => 1 ≤ bytes.length && bytes.length ≤ 112
  | _ => true

end Sys2Proof
end

