-- ==== Sys2Proof/Machine/Link.lean ====
section
/-! DEFINITION. The Link Unit (R165 to R177): the receiver, the receive buffer, the notice queue, and each
request taken by its owner. -/

namespace Sys2Proof.Machine

/-! ## The notice queue (R173 to R175) -/

/-- The queue keeps some of its notices; when that removes any, a loss is reported (R173). -/
def Lnk.keep (l : Lnk) (time : Nat) (kept : List Notice) : Lnk :=
  if kept.length < l.notices.length then ({ l with notices := kept } : Lnk).afterRemoval time else l

/-- The 12 bytes of a notice (R191). -/
def noticeBytes (n : Notice) : List Byte :=
  byte (noticeKindCode n.kind) :: (be32 n.time ++ n.subject :: padTo 6 n.values)

/-- FETCH NOTICES (R175). -/
def State.fetch (s : State) : State :=
  let taken := s.lnk.notices.take 8
  let l := s.lnk.keep s.seconds (s.lnk.notices.drop 8)
  ({ s with lnk := l } : State).answerOk
    ([byte taken.length, byte l.notices.length] ++ (taken.map noticeBytes).flatten)

/-- Bits 12 to 15 of a mask name NOTICES_LOST and no kind at all (R174). -/
def maskTaken (mask : BitVec 16) : Bool := mask.toNat < 4096

/-- SET NOTICE MASK (R174). -/
def State.setMask (s : State) (mask : BitVec 16) : State :=
  if maskTaken mask then
    let l := { s.lnk with mask := mask }
    ({ s with lnk := l.keep s.seconds (l.notices.filter fun n => !l.masked n.kind) } : State).answerStatus .ok
  else s.answerStatus .badValue

/-! ## Status replies (R176, R190) -/

/-- The flags byte of a drive (R190). Bit 7 is set for AUX too, whose record keeps motion armed at yes: the model's
choice (log entry 47). -/
def driveFlags (r : DriveRec) : Nat :=
  bit 0 r.retryUsed + 2 * phaseCode r.phase + 8 * pendingReleaseCode r.pendingRelease +
    bit 5 r.overspeedPosted + bit 6 r.releaseCut + bit 7 r.motionArmed

def driveStatus (r : DriveRec) : List Byte :=
  [byte (driveStateCode r.state), opt8 (r.cause.map driveCauseCode), opt8 (r.fault.map faultCode),
    byte (driveFlags r)]

def watchStatus (r : WatchRec) : List Byte :=
  byte (watchStateCode r.state + 4 * healthCode r.health + bit 4 r.cutPosted + bit 5 r.dryElapsed) ::
    opt16s r.peak

def pumpStatus (x : PumpWatches) : List Byte :=
  watchStatus x.overheat ++ watchStatus x.overpressure ++ watchStatus x.cavitation ++ watchStatus x.dryRun

/-- DO0 to DO9 as a mask. -/
def outputMask (s : State) : Nat :=
  bit 0 s.deu.do0 + bit 1 s.deu.do1 + bit 2 s.deu.do2 + bit 3 s.lku.do3 + bit 4 s.tau.do4 +
    bit 5 s.tau.do5 + bit 6 s.lbu.valve.do6 + bit 7 s.lku.do7 + bit 8 s.ppu.do8 + bit 9 s.ppu.do9

/-- GET STATUS (R176, R190). -/
def statusReply (s : State) : List Byte :=
  [byte (confCode s.pfu.conf), byte (supplyCode s.pfu.supply), byte (recorderCode s.drc.state)] ++
  driveStatus s.deu.drives.main ++ driveStatus s.deu.drives.aux ++
  [byte (holderCode s.deu.holder + bit 2 s.deu.adopted)] ++
  [byte (authorityCode s.tau.state), opt8 (s.tau.cause.map authCauseCode)] ++
  be16 (maskOf (s.tau.cuts.map cutCode)) ++ [byte (tauFlags s.tau)] ++
  pumpStatus s.ppu.watches.main ++ pumpStatus s.ppu.watches.aux ++
  [byte (sourceCode s.ppu.sources.main + 4 * sourceCode s.ppu.sources.aux)] ++
  be32 (maskOf (s.ppu.alarms.map fun a => alarmCode a.cause)) ++
  be32 (maskOf ((s.ppu.alarms.filter (·.silenced)).map fun a => alarmCode a.cause)) ++
  [byte (valveCode s.lbu.valve.state)] ++ be16 (outputMask s) ++
  be16 s.lnk.faults.gap ++ be16 s.lnk.faults.crc ++ be16 s.lnk.faults.length ++
  be16 s.lnk.faults.byteError ++ be16 s.lnk.faults.overrun ++
  [byte s.lnk.notices.length] ++ be16 s.lnk.lost ++ be16 s.lnk.mask.toNat ++ [flag s.lnk.baudHigh]

def channelStatus (c : PubChannel) : List Byte :=
  byte (roleCode c.role + 8 * healthCode c.health) :: (be16 c.code ++ opt16s c.value)

def pulseStatus (p : PubPulse) : List Byte :=
  byte (pulseStateCode p.state) :: (opt32 (p.period.map (saturate 4294967294)) ++ opt16 p.speed)

/-- A mask of the discrete inputs. -/
def discreteMask (f : PubDiscrete → Bool) (ds : List PubDiscrete) : Nat :=
  ((List.range 12).zip ds).foldl (fun m (n, d) => m + bit n (f d)) 0

/-- GET INPUTS (R176, R190). ROAD_STILL stands in bit 0, the split position in bits 1 and 2 (log entry 19). That a bit of
the DI0 to DI11 levels is 1 when the input is asserted is the model's choice (log entry 37). -/
def inputsReply (s : State) : List Byte :=
  let p := s.isu.pub
  (p.channels.map channelStatus).flatten ++ be16 p.supplyCode ++ be16 p.supplyMv ++
  pulseStatus p.pulses.engine ++ pulseStatus p.pulses.mainPump ++ pulseStatus p.pulses.auxPump ++
  pulseStatus p.pulses.road ++ be16 (discreteMask (·.level) p.discretes) ++
  be16 (discreteMask (·.changed) p.discretes) ++ [byte (bit 0 p.roadStill + 2 * splitCode p.split)]

/-- Time to empty (R188). -/
def timeToEmptyField : TimeToEmpty → List Byte
  | .unknown => be16 0xFFFF
  | .notDraining => be16 0xFFFE
  | .seconds n => be16 n

/-- GET TANK (R176, R190). That OVER_TOP, OVER_RANGE and OUTLET_UNCOVERED stand in bits 0, 1 and 2 of the flags byte is
the model's choice (log entry 19). -/
def tankReply (s : State) (t : Tank) : List Byte :=
  let g := s.tgu.gauges.get t
  let b := s.lbu.bands.get t
  let k := s.tgu.tilt
  opt16u g.h ++ opt16u g.f ++ opt16u g.v ++ opt16u g.residue ++ opt16u g.u ++ opt32s g.rate ++
  timeToEmptyField g.timeToEmpty ++
  [byte (qualityCode g.quality), byte (bit 0 g.overTop + bit 1 g.overRange + bit 2 g.uncovered)] ++
  g.probes.map (fun p => byte (probeStatusCode p)) ++
  [flag g.enabled, byte (bandCode b.band), byte (directionCode b.direction)] ++
  be16s k.p ++ be16s k.q ++
  [byte (healthCode k.pHealth), byte (healthCode k.qHealth), byte (triCode k.extreme)]

def State.getTank (s : State) (tank : Nat) : State :=
  match tankOf tank with
  | some t => s.answerOk (tankReply s t)
  | none => s.answerStatus .badValue

/-! ## Requests taken by their owners (R169) -/

def State.engage (s : State) (d : Drive) : State :=
  let w := deuRun s (bodyEngage s d)
  (s.deuCommit w).answerStatus w.status

def State.release (s : State) (d : Drive) : State :=
  let w := deuRun s (bodyRelease s d)
  (s.deuCommit w).answerStatus w.status

/-- A request that names a drive (R190). -/
def State.onDrive (s : State) (b : Byte) (f : Drive → State) : State :=
  match driveOf b with
  | some d => f d
  | none => s.answerStatus .badValue

def State.reclaim (s : State) : State :=
  let w := bodyReclaim s { tau := s.tau }
  (s.tauCommit w).answerStatus w.status

/-- SILENCE ALARM is answered OK whatever the set holds (R108). -/
def State.silence (s : State) : State := (s.ppuTakes bodySilence).answerStatus .ok

/-- CLEAR FILL FAULT (R59). -/
def State.clearFill (s : State) : State :=
  if s.lbu.valve.state = .faulted then
    (s.lbuValve (leaveFaulted .cleared s.lbu.valve)).answerStatus .ok
  else s.answerStatus (.refused .state)

/-- A request of the Lockout Unit. -/
def State.lkuRequest (s : State) (body : LkuWork → LkuWork) : State :=
  let w := body { lku := s.lku }
  (s.lkuCommit w).answerStatus w.status

/-- SOFT RESTART (R171). -/
def State.requestRestart (s : State) : State :=
  if !s.bothDisengaged then s.answerStatus (.refused .driveActive)
  else if s.pfu.conf = .applying then s.answerStatus .busy
  else
    (({ s with lnk := { s.lnk with restart := some ⟨false, false⟩ } } : State).emit
      { events := [(.drc, .restartAsked)] }).answerStatus .ok

/-- Whether a kind allows a body of `n` bytes (R190). -/
def lengthAllowed (kind n : Nat) : Bool :=
  match kind with
  | 0x03 => n = 1
  | 0x05 => n = 2
  | 0x10 => n = 1
  | 0x11 => n = 1
  | 0x20 => n = 1
  | 0x21 => n = 3
  | 0x22 => n = 1
  | 0x28 => n = 5
  | 0x2A => n = 16
  | 0x2B => n = 4
  | 0x30 => n = 5
  | 0x31 => 4 ≤ n && n ≤ 115
  | _ => n = 0

/-- The request of a known kind, with a body of its length, passed to its owner (R168, R169). -/
def State.own (s : State) (kind : Nat) (b : List Byte) : State :=
  match kind with
  | 0x01 => s.answerOk (statusReply s)
  | 0x02 => s.answerOk (inputsReply s)
  | 0x03 => s.getTank (rd8 b 0)
  | 0x04 => s.fetch
  | 0x05 => s.setMask (BitVec.ofNat 16 (rd16 b 0))
  | 0x10 => s.onDrive (b.getD 0 0#8) s.engage
  | 0x11 => s.onDrive (b.getD 0 0#8) s.release
  | 0x18 => s.reclaim
  | 0x19 => s.silence
  | 0x1A => s.clearFill
  | 0x20 => s.lkuRequest (bodyConfirm s (rd8 b 0))
  | 0x21 => s.lkuRequest (bodyOverride s (rd8 b 0) (rd16 b 1))
  | 0x22 => s.lkuRequest (bodyCancel s (rd8 b 0))
  | 0x23 => s.answerOk (lockoutsReply s)
  | 0x28 => s.drcTakes (bodyReadRecords (rd32 b 0) (rd8 b 4))
  | 0x29 => s.answerOk (accumulatorsReply s)
  | 0x2A => s.drcTakes (bodyMark s b)
  | 0x2B => s.drcTakes (bodySetTime s (rd32 b 0))
  | 0x30 => s.pfuTakes (bodyProfileRead (rd8 b 0) (rd8 b 1) (rd16 b 2) (rd8 b 4))
  | 0x31 => s.pfuTakes (bodyProfileWrite s (rd8 b 0) (rd16 b 1) (b.drop 3))
  | 0x32 => s.pfuTakes (bodyProfileApply s)
  | 0x33 => s.pfuTakes bodyProfileDiscard
  | 0x3F => s.requestRestart
  | _ => s

/-- A frame enters service (R167, R168). -/
def State.serve (s : State) (f : Frame) : State :=
  let s := { s with lnk := { s.lnk with service := some ⟨f.kind, f.tag, none⟩ } }
  if !requestKinds.contains f.kind then s.answerStatus .unknownKind
  else if !lengthAllowed f.kind.toNat f.body.length then s.answerStatus .badLength
  else s.own f.kind.toNat f.body

/-- A complete and correct frame is offered to the receive buffer (R167, R171). -/
def State.offerFrame (s : State) (f : Frame) : State :=
  if s.lnk.service.isNone && s.lnk.restart.isNone then s.serve f
  else if s.lnk.waiting.isNone then { s with lnk := { s.lnk with waiting := some f } }
  else
    { s with lnk := { s.lnk with faults := { s.lnk.faults with
      overrun := saturate 65535 (s.lnk.faults.overrun + 1) } } }

/-- The last byte of a reply has been sent (R167, R171). -/
def State.replySent (s : State) : State :=
  match s.lnk.service with
  | some ⟨_, _, some _⟩ =>
    match s.lnk.restart, s.lnk.waiting with
    | some r, _ =>
      { s with lnk := { s.lnk with service := none, restart := some { r with replySent := true } } }
    | none, some f => ({ s with lnk := { s.lnk with service := none, waiting := none } } : State).serve f
    | none, none => { s with lnk := { s.lnk with service := none } }
  | _ => s

/-! ## The receiver (R165, R166) -/

/-- A partial frame is dropped, with the counters given. -/
def Lnk.discard (l : Lnk) (faults : LinkFaults) : Lnk :=
  { l with rx := none, gapTimer := .stopped, faults := faults }

def LinkFaults.addGap (x : LinkFaults) : LinkFaults := { x with gap := saturate 65535 (x.gap + 1) }

def LinkFaults.addCrc (x : LinkFaults) : LinkFaults := { x with crc := saturate 65535 (x.crc + 1) }

def LinkFaults.addLength (x : LinkFaults) : LinkFaults := { x with length := saturate 65535 (x.length + 1) }

def LinkFaults.addByteError (x : LinkFaults) : LinkFaults :=
  { x with byteError := saturate 65535 (x.byteError + 1) }

/-- The frame of the bytes after a sync byte, CRC included. -/
def frameOf (bytes : List Byte) : Frame :=
  ⟨bytes.getD 1 0#8, bytes.getD 2 0#8, (bytes.drop 3).take (rd8 bytes 0)⟩

/-- The CRC of the bytes after a sync byte is right (R187). -/
def frameCrcOk (bytes : List Byte) : Bool :=
  let n := rd8 bytes 0 + 3
  decide (bytes.drop n = crcBytes (bytes.take n))

/-- A byte taken while a frame is assembled. -/
def State.assemble (s : State) (sofar : List Byte) (b : Byte) : State :=
  let l := s.lnk
  let bytes := sofar ++ [b]
  if sofar.isEmpty ∧ 120 < b.toNat then { s with lnk := l.discard l.faults.addLength }
  else if bytes.length < rd8 bytes 0 + 5 then
    { s with lnk := { l with rx := some bytes, gapTimer := .started s.now gapTime } }
  else if frameCrcOk bytes then
    ({ s with lnk := l.discard l.faults } : State).offerFrame (frameOf bytes)
  else { s with lnk := l.discard l.faults.addCrc }

/-- A byte on HLRX (R165). -/
def State.receive (s : State) (b : Byte) (framingError : Bool) : State :=
  let l := s.lnk
  match l.rx with
  | none =>
    if b = 0xA5#8 ∧ !framingError then
      { s with lnk := { l with rx := some [], gapTimer := .started s.now gapTime } }
    else s
  | some sofar =>
    if framingError then { s with lnk := l.discard l.faults.addByteError } else s.assemble sofar b

/-- The gap timer expires (R165). -/
def State.gapExpired (s : State) : State := { s with lnk := s.lnk.discard s.lnk.faults.addGap }

/-! ## Events -/

/-- An event handed to the Link Unit. -/
def State.lnkEvent (s : State) : Event → State
  | .reply body => s.answer body
  | .restartReady =>
    match s.lnk.restart with
    | some r => { s with lnk := { s.lnk with restart := some { r with recorderReady := true } } }
    | none => s
  | _ => s

end Sys2Proof.Machine
end

