-- ==== Sys2Proof/Machine/Settle.lean ====
section
/-! DEFINITION. Following a command through the blocks: publications are taken one at a time until none is
left, and a soft restart that is due takes place. -/

namespace Sys2Proof.Machine

/-- A publication is taken by its block. -/
def State.deliver (s : State) (b : Block) (e : Event) : State :=
  match b with
  | .isu => match e with
    | .conf before after => { s with isu := isuConf s before after }
    | _ => s
  | .tgu => match e with
    | .conf _ after => { s with tgu := tguConf s after }
    | _ => s
  | .lbu => s.lbuEvent e
  | .deu => s.deuEvent e
  | .ppu => s.ppuEvent e
  | .lku => s.lkuEvent e
  | .tau => s.tauEvent e
  | .drc => s.drcEvent e
  | .lnk => s.lnkEvent e
  | .pfu => s.pfuEvent e

/-- The first delivery for a block, with the agenda that is left. -/
def takeFor (b : Block) : List (Block × Event) → Option (Event × List (Block × Event))
  | [] => none
  | (c, e) :: rest =>
    if c = b then some (e, rest)
    else match takeFor b rest with
      | some (x, left) => some (x, (c, e) :: left)
      | none => none

/-- The next delivery: to the block the schedule names, if something waits for it, and otherwise the first
of the agenda (log entry 3). -/
def nextDelivery (schedule : List Block) (first : Block × Event) (rest : List (Block × Event)) :
    Block × Event × List (Block × Event) :=
  match schedule with
  | [] => (first.1, first.2, rest)
  | b :: _ => match takeFor b (first :: rest) with
    | some (e, left) => (b, e, left)
    | none => (first.1, first.2, rest)

/-- Publications are taken until none is left, or the bound of log entry 4 is reached. -/
def settle : Nat → State → State
  | 0, s => { s with agenda := [] }
  | n + 1, s =>
    match s.agenda with
    | [] => s
    | first :: rest =>
      let (b, e, left) := nextDelivery s.schedule first rest
      settle n (({ s with agenda := left, schedule := s.schedule.drop 1 } : State).deliver b e)

/-- A command begins at a time: the port serves what waits for it. -/
def State.beginAt (s : State) (t : Micros) : State :=
  { s with now := t, agenda := [], port := s.port.serve }

/-- A soft restart takes place when the reply has been sent and the recorder is ready (R171). -/
def State.restartIfDue (s : State) : State :=
  match s.lnk.restart with
  | some ⟨true, true⟩ => State.afterReset s.ratePinHigh s.lnk.faults s.schedule s.pending
  | _ => s

/-- A command's publications are followed to their end. -/
def State.finish (s : State) : State := (settle Config.settleBound s).restartIfDue

/-- A command taken `dt` after the one before it. -/
def after (dt : Micros) (f : State → State) (s : State) : Host.Outcome State Fault Refusal :=
  .next (f (s.beginAt (s.now + dt))).finish

/-- The expiry of a timer: taken when the timer is due, or at once when that time has passed; a timer that
is not running does not expire, and nothing changes (5.6; log entry 2). -/
def atExpiry (t : Timer) (f : State → State) (s : State) : Host.Outcome State Fault Refusal :=
  match t with
  | .running due => .next (f (s.beginAt (max s.now due))).finish
  | _ => .next s

end Sys2Proof.Machine
end

