-- ==== Sys2Proof/Machine/Expiries.lean ====
section
/-! DEFINITION. The commands that are resets, input events and timer expiries. -/

namespace Sys2Proof.Machine

/-- What a command answers. -/
abbrev Answer := Host.Outcome State Fault Refusal

/-! ## Resets (R186, R166) -/

/-- The link fault counters after a power-on reset and after a pin reset (R166). -/
def noFaults : LinkFaults := ⟨0, 0, 0, 0, 0⟩

/-- Every block takes its state after a reset that samples the RATE strap and clears the counters. -/
def State.hardReset (s : State) (rateHigh : Bool) : State :=
  .afterReset rateHigh noFaults s.schedule s.pending

/-- POWER_ON_RESET (R186). -/
def execPowerOnReset (rateHigh : Bool) (s : State) : Answer := .next (s.hardReset rateHigh)

/-- PIN_RESET (R186). -/
def execPinReset (rateHigh : Bool) (s : State) : Answer := .next (s.hardReset rateHigh)

/-! ## Inputs (R1, R10, R12) -/

/-- The scan's effect on the Input Scan Unit, and its publication. -/
def State.isuScanned (s : State) (codes : List (BitVec 12)) (samples : BitVec 12) : State :=
  { s with isu := isuScan s codes samples }.emit
    { news := scanNews s.isu codes, events := toBlocks [.lbu, .deu, .ppu, .lku, .tau, .pfu] .inputs }

/-- SCAN (R1). -/
def execScan (codes : Vector (BitVec 12) 16) (samples : BitVec 12) (s : State) : Answer :=
  atExpiry s.isu.scanTimer (fun s => s.isuScanned codes.toList samples) s

/-- PULSE (R10). -/
def execPulse (dt : Micros) (pin : PulseIn) (s : State) : Answer :=
  after dt (fun s => { s with isu := isuPulse s pin }) s

/-- HOLD_TIMER_EXPIRY (R10). -/
def execHoldTimerExpiry (pin : PulseIn) (s : State) : Answer :=
  atExpiry (s.isu.pulses.get pin).hold (fun s => { s with isu := isuHoldExpired s pin }) s

/-- STILL_TIMER_EXPIRY (R12). -/
def execStillTimerExpiry (s : State) : Answer :=
  atExpiry s.isu.stillTimer (fun s => { s with isu := isuStillExpired s }) s

/-- RECOVERY_TIMER_EXPIRY (R185). -/
def execRecoveryTimerExpiry (s : State) : Answer :=
  atExpiry s.pfu.recovery (fun s => s.pfuTakes (pfuRecoveryExpired s)) s

/-! ## Gauging and the refill valve -/

/-- A gauge cycle and its publication (R18, R19). -/
def State.tguCycled (s : State) : State := { s with tgu := tguCycle s }.emit (tguCycleOut s)

/-- GAUGE_CYCLE (R18). -/
def execGaugeCycle (s : State) : Answer := atExpiry s.tgu.gaugeTimer State.tguCycled s

/-- RECLOSE_TIMER_EXPIRY (R54, R55). -/
def execRecloseTimerExpiry (s : State) : Answer :=
  atExpiry s.lbu.valve.reclose (fun s => s.lbuValve (valveRecloseExpired s s.lbu.valve)) s

/-- LOW_PRESSURE_TIMER_EXPIRY (R57). -/
def execLowPressureTimerExpiry (s : State) : Answer :=
  atExpiry s.lbu.valve.lowPressure (fun s => s.lbuValve (valveLowPressureExpired s s.lbu.valve)) s

/-- NO_RISE_TIMER_EXPIRY (R58). -/
def execNoRiseTimerExpiry (s : State) : Answer :=
  atExpiry s.lbu.valve.noRise (fun s => s.lbuValve (valveNoRiseExpired s s.lbu.valve)) s

/-! ## Drives -/

/-- The sequence timer of a drive, when it runs for the purpose. -/
def State.seqTimer (s : State) (d : Drive) (p : SeqPurpose) : Timer :=
  let r := s.deu.drives.get d
  if r.seqPurpose = some p then r.seq else .stopped

/-- PERMISSIVE_TIMER_EXPIRY (R71). -/
def execPermissiveTimerExpiry (drive : Drive) (s : State) : Answer :=
  atExpiry (s.seqTimer drive .permissive) (fun s => s.deuTakes (bodyPermissiveExpired drive)) s

/-- CONFIRM_TIMER_EXPIRY (R72). -/
def execConfirmTimerExpiry (drive : Drive) (s : State) : Answer :=
  atExpiry (s.seqTimer drive .confirm) (fun s => s.deuTakes (bodyConfirmExpired s drive)) s

/-- RETRY_OFF_EXPIRY (R72). -/
def execRetryOffExpiry (drive : Drive) (s : State) : Answer :=
  atExpiry (s.seqTimer drive .retryOff) (fun s => s.deuTakes (bodyRetryOffExpired s drive)) s

/-- RESTORE_TIMER_EXPIRY (R75). -/
def execRestoreTimerExpiry (s : State) : Answer :=
  atExpiry (s.seqTimer .main .restore) (fun s => s.deuTakes endRestore) s

/-- The idle timer runs out (R77). -/
def bodyIdleExpired (s : State) (d : Drive) (w : DeuWork) : DeuWork :=
  if (w.drive d).pendingRelease = .idleWait then enterFaulted s d .noIdle false w else w

/-- IDLE_TIMER_EXPIRY (R77). -/
def execIdleTimerExpiry (drive : Drive) (s : State) : Answer :=
  atExpiry (s.seqTimer drive .idle) (fun s => s.deuTakes (bodyIdleExpired s drive)) s

/-- A monitor faults a drive that turns its pump (R82, R85, R86). -/
def bodyMonitorFault (s : State) (d : Drive) (k : FaultKind) (w : DeuWork) : DeuWork :=
  if (w.drive d).state.turning then enterFaulted s d k false w else w

/-- POSITION_TIMER_EXPIRY (R82). -/
def execPositionTimerExpiry (drive : Drive) (s : State) : Answer :=
  atExpiry (s.deu.drives.get drive).position
    (fun s => s.deuTakes (bodyMonitorFault s drive .positionLost)) s

/-- OVERSPEED_TIMER_EXPIRY (R84). -/
def execOverspeedTimerExpiry (s : State) : Answer :=
  atExpiry s.deu.drives.aux.overspeed (fun s => s.deuTakes bodyOverspeedExpired) s

/-- SLIP_TIMER_EXPIRY (R85). -/
def execSlipTimerExpiry (drive : Drive) (s : State) : Answer :=
  atExpiry (s.deu.drives.get drive).slip (fun s => s.deuTakes (bodyMonitorFault s drive .slip)) s

/-- STALL_TIMER_EXPIRY (R86). -/
def execStallTimerExpiry (drive : Drive) (s : State) : Answer :=
  atExpiry (s.deu.drives.get drive).stall (fun s => s.deuTakes (bodyMonitorFault s drive .slip)) s

/-! ## Pump protection -/

/-- PERSIST_TIMER_EXPIRY (R100). -/
def execPersistTimerExpiry (pump : Drive) (watch : Threshold) (s : State) : Answer :=
  atExpiry ((s.ppu.watches.get pump).get (thresholdWatch watch)).persist
    (fun s => s.ppuTakes (thresholdExpired s pump watch)) s

/-- DRY_TIMER_EXPIRY (R104). -/
def execDryTimerExpiry (pump : Drive) (s : State) : Answer :=
  atExpiry (s.ppu.watches.get pump).dryRun.dry (fun s => s.ppuTakes (dryExpired s pump)) s

/-- DRY_RUN_CLEAR_EXPIRY (R104). -/
def execDryRunClearExpiry (pump : Drive) (s : State) : Answer :=
  atExpiry (s.ppu.watches.get pump).dryRun.persist (fun s => s.ppuTakes (dryClearExpired pump)) s

/-! ## Lockouts, authority, recorder and link -/

/-- The timer of a slot's override. -/
def Lku.overrideTimer (l : Lku) (n : Nat) : Timer :=
  ((l.overrides.find? fun o => o.slot = n).map (·.timer)).getD .stopped

/-- OVERRIDE_TIMER_EXPIRY (R127). -/
def execOverrideTimerExpiry (slot : Fin 16) (s : State) : Answer :=
  atExpiry (s.lku.overrideTimer slot.val) (fun s => s.lkuTakes (lkuExpired s slot.val)) s

/-- TRANSFER_TIMER_EXPIRY (R140, R143). -/
def execTransferTimerExpiry (s : State) : Answer :=
  atExpiry s.tau.transfer (fun s => s.tauTakes tauTransferExpired) s

/-- RECLAIM_TIMER_EXPIRY (R142). -/
def execReclaimTimerExpiry (s : State) : Answer :=
  atExpiry s.tau.reclaim (fun s => s.tauTakes (tauReclaimExpired s)) s

/-- SYNC_TIMER_EXPIRY (R154). -/
def execSyncTimerExpiry (s : State) : Answer :=
  atExpiry s.drc.syncTimer (fun s => s.drcTakes (drcSyncExpired s)) s

/-- GAP_TIMER_EXPIRY (R165). -/
def execGapTimerExpiry (s : State) : Answer := atExpiry s.lnk.gapTimer State.gapExpired s

end Sys2Proof.Machine
end

