-- ==== Sys2Proof/Machine/MemoryEnds.lean ====
section
/-! DEFINITION. The ends of the serial memory port's operations (R179). An end of an operation that is not
in progress changes nothing but the time. -/

namespace Sys2Proof.Machine

/-- The operation in progress ends, and the port serves what waits. -/
def State.portFreed (s : State) : State := { s with port := s.port.free }

/-- A ring slot write ends. -/
def State.slotWriteEnded (s : State) (outcome : WriteEnd) : State :=
  match s.port.busy with
  | some (.drc, .slotWrite _ _) => s.portFreed.drcTakes (drcWriteEnd outcome)
  | _ => s

/-- HALF_PAGE_WRITE_END (R157). -/
def execHalfPageWriteEnd (dt : Micros) (outcome : WriteEnd) (s : State) : Answer :=
  after dt (fun s => s.slotWriteEnded outcome) s

/-- A ring slot read ends. -/
def State.slotReadEnded (s : State) (outcome : SlotEnd) : State :=
  match s.port.busy with
  | some (.drc, .slotRead _) => s.portFreed.drcTakes (drcSlotReadEnd outcome)
  | _ => s

/-- SLOT_READ_END (R158, R160). -/
def execSlotReadEnd (dt : Micros) (outcome : SlotEnd) (s : State) : Answer :=
  after dt (fun s => s.slotReadEnded outcome) s

/-- A profile page read ends. -/
def State.pageReadEnded (s : State) (outcome : PageEnd) : State :=
  match s.port.busy with
  | some (.pfu, .pageRead _) => s.portFreed.pfuTakes (pfuReadEnd outcome)
  | _ => s

/-- PAGE_READ_END (R181, R182). -/
def execPageReadEnd (dt : Micros) (outcome : PageEnd) (s : State) : Answer :=
  after dt (fun s => s.pageReadEnded outcome) s

/-- A profile page write ends. -/
def State.pageWriteEnded (s : State) (outcome : WriteEnd) : State :=
  match s.port.busy with
  | some (.pfu, .pageWrite _ _) => s.portFreed.pfuTakes (pfuWriteEnd outcome)
  | _ => s

/-- PAGE_WRITE_END (R183, R184). -/
def execPageWriteEnd (dt : Micros) (outcome : WriteEnd) (s : State) : Answer :=
  after dt (fun s => s.pageWriteEnded outcome) s

end Sys2Proof.Machine
end

