-- ==== Sys2Proof/Machine/Requests.lean ====
section
/-! DEFINITION. The commands of the host link: bytes, replies sent, and each request as the frame it is,
complete and correct, offered to the receive buffer (R167, R190). -/

namespace Sys2Proof.Machine

/-- HLRX_BYTE (R165). -/
def execHlrxByte (dt : Micros) (b : Byte) (framingError : Bool) (s : State) : Answer :=
  after dt (fun s => s.receive b framingError) s

/-- REPLY_SENT (R167). -/
def execReplySent (dt : Micros) (s : State) : Answer := after dt State.replySent s

/-- A request frame taken whole. -/
def request (dt : Micros) (kind tag : Byte) (body : List Byte) (s : State) : Answer :=
  after dt (fun s => s.offerFrame ⟨kind, tag, body⟩) s

/-- A two-byte body field (R188). -/
def field16 (x : BitVec 16) : List Byte := be16 x.toNat

/-- A four-byte body field (R188). -/
def field32 (x : BitVec 32) : List Byte := be32 x.toNat

/-- UNKNOWN_KIND (R168). -/
def execUnknownKind (dt : Micros) (tag kind : Byte) (body : List Byte) (s : State) : Answer :=
  request dt kind tag body s

/-- GET_STATUS (R176). -/
def execGetStatus (dt : Micros) (tag : Byte) (s : State) : Answer := request dt 0x01#8 tag [] s

/-- GET_INPUTS (R176). -/
def execGetInputs (dt : Micros) (tag : Byte) (s : State) : Answer := request dt 0x02#8 tag [] s

/-- GET_TANK (R176). -/
def execGetTank (dt : Micros) (tag tank : Byte) (s : State) : Answer := request dt 0x03#8 tag [tank] s

/-- FETCH_NOTICES (R175). -/
def execFetchNotices (dt : Micros) (tag : Byte) (s : State) : Answer := request dt 0x04#8 tag [] s

/-- SET_NOTICE_MASK (R174). -/
def execSetNoticeMask (dt : Micros) (tag : Byte) (mask : BitVec 16) (s : State) : Answer :=
  request dt 0x05#8 tag (field16 mask) s

/-- ENGAGE_DRIVE (R70). -/
def execEngageDrive (dt : Micros) (tag drive : Byte) (s : State) : Answer :=
  request dt 0x10#8 tag [drive] s

/-- RELEASE_DRIVE (R76). -/
def execReleaseDrive (dt : Micros) (tag drive : Byte) (s : State) : Answer :=
  request dt 0x11#8 tag [drive] s

/-- RECLAIM_AUTHORITY (R142). -/
def execReclaimAuthority (dt : Micros) (tag : Byte) (s : State) : Answer := request dt 0x18#8 tag [] s

/-- SILENCE_ALARM (R108). -/
def execSilenceAlarm (dt : Micros) (tag : Byte) (s : State) : Answer := request dt 0x19#8 tag [] s

/-- CLEAR_FILL_FAULT (R59). -/
def execClearFillFault (dt : Micros) (tag : Byte) (s : State) : Answer := request dt 0x1A#8 tag [] s

/-- CONFIRM_LOCKOUT (R124). -/
def execConfirmLockout (dt : Micros) (tag slot : Byte) (s : State) : Answer :=
  request dt 0x20#8 tag [slot] s

/-- OVERRIDE_LOCKOUT (R126). -/
def execOverrideLockout (dt : Micros) (tag slot : Byte) (seconds : BitVec 16) (s : State) : Answer :=
  request dt 0x21#8 tag (slot :: field16 seconds) s

/-- CANCEL_OVERRIDE (R128). -/
def execCancelOverride (dt : Micros) (tag slot : Byte) (s : State) : Answer :=
  request dt 0x22#8 tag [slot] s

/-- GET_LOCKOUTS (R131). -/
def execGetLockouts (dt : Micros) (tag : Byte) (s : State) : Answer := request dt 0x23#8 tag [] s

/-- READ_RECORDS (R160). -/
def execReadRecords (dt : Micros) (tag : Byte) (sequence : BitVec 32) (count : Byte) (s : State) : Answer :=
  request dt 0x28#8 tag (field32 sequence ++ [count]) s

/-- GET_ACCUMULATORS (R161). -/
def execGetAccumulators (dt : Micros) (tag : Byte) (s : State) : Answer := request dt 0x29#8 tag [] s

/-- MARK_RECORD (R162). -/
def execMarkRecord (dt : Micros) (tag : Byte) (text : Vector Byte 16) (s : State) : Answer :=
  request dt 0x2A#8 tag text.toList s

/-- SET_TIME (R163). -/
def execSetTime (dt : Micros) (tag : Byte) (seconds : BitVec 32) (s : State) : Answer :=
  request dt 0x2B#8 tag (field32 seconds) s

/-- PROFILE_READ (R182). -/
def execProfileRead (dt : Micros) (tag source sect : Byte) (offset : BitVec 16) (count : Byte)
    (s : State) : Answer :=
  request dt 0x30#8 tag ([source, sect] ++ field16 offset ++ [count]) s

/-- PROFILE_WRITE (R182). -/
def execProfileWrite (dt : Micros) (tag sect : Byte) (offset : BitVec 16) (bytes : List Byte)
    (s : State) : Answer :=
  request dt 0x31#8 tag (sect :: (field16 offset ++ bytes)) s

/-- PROFILE_APPLY (R183). -/
def execProfileApply (dt : Micros) (tag : Byte) (s : State) : Answer := request dt 0x32#8 tag [] s

/-- PROFILE_DISCARD (R182). -/
def execProfileDiscard (dt : Micros) (tag : Byte) (s : State) : Answer := request dt 0x33#8 tag [] s

/-- SOFT_RESTART (R171). -/
def execSoftRestart (dt : Micros) (tag : Byte) (s : State) : Answer := request dt 0x3F#8 tag [] s

end Sys2Proof.Machine
end

