-- ==== Sys2Proof/Machine/Dispatch.lean ====
section
/-! DEFINITION. The meaning of each command: one arm for each constructor of Instr. -/

namespace Sys2Proof.Machine

def exec (i : Instr) (s : State) : Host.Outcome State Fault Refusal :=
  match i with
  | .powerOnReset rateHigh => Sys2Proof.Machine.execPowerOnReset rateHigh s
  | .pinReset rateHigh => Sys2Proof.Machine.execPinReset rateHigh s
  | .scan codes samples => Sys2Proof.Machine.execScan codes samples s
  | .pulse dt pin => Sys2Proof.Machine.execPulse dt pin s
  | .holdTimerExpiry pin => Sys2Proof.Machine.execHoldTimerExpiry pin s
  | .stillTimerExpiry => Sys2Proof.Machine.execStillTimerExpiry s
  | .recoveryTimerExpiry => Sys2Proof.Machine.execRecoveryTimerExpiry s
  | .gaugeCycle => Sys2Proof.Machine.execGaugeCycle s
  | .recloseTimerExpiry => Sys2Proof.Machine.execRecloseTimerExpiry s
  | .lowPressureTimerExpiry => Sys2Proof.Machine.execLowPressureTimerExpiry s
  | .noRiseTimerExpiry => Sys2Proof.Machine.execNoRiseTimerExpiry s
  | .permissiveTimerExpiry drive => Sys2Proof.Machine.execPermissiveTimerExpiry drive s
  | .confirmTimerExpiry drive => Sys2Proof.Machine.execConfirmTimerExpiry drive s
  | .retryOffExpiry drive => Sys2Proof.Machine.execRetryOffExpiry drive s
  | .restoreTimerExpiry => Sys2Proof.Machine.execRestoreTimerExpiry s
  | .idleTimerExpiry drive => Sys2Proof.Machine.execIdleTimerExpiry drive s
  | .positionTimerExpiry drive => Sys2Proof.Machine.execPositionTimerExpiry drive s
  | .overspeedTimerExpiry => Sys2Proof.Machine.execOverspeedTimerExpiry s
  | .slipTimerExpiry drive => Sys2Proof.Machine.execSlipTimerExpiry drive s
  | .stallTimerExpiry drive => Sys2Proof.Machine.execStallTimerExpiry drive s
  | .persistTimerExpiry pump watch => Sys2Proof.Machine.execPersistTimerExpiry pump watch s
  | .dryTimerExpiry pump => Sys2Proof.Machine.execDryTimerExpiry pump s
  | .dryRunClearExpiry pump => Sys2Proof.Machine.execDryRunClearExpiry pump s
  | .overrideTimerExpiry slot => Sys2Proof.Machine.execOverrideTimerExpiry slot s
  | .transferTimerExpiry => Sys2Proof.Machine.execTransferTimerExpiry s
  | .reclaimTimerExpiry => Sys2Proof.Machine.execReclaimTimerExpiry s
  | .syncTimerExpiry => Sys2Proof.Machine.execSyncTimerExpiry s
  | .halfPageWriteEnd dt outcome => Sys2Proof.Machine.execHalfPageWriteEnd dt outcome s
  | .slotReadEnd dt outcome => Sys2Proof.Machine.execSlotReadEnd dt outcome s
  | .pageReadEnd dt outcome => Sys2Proof.Machine.execPageReadEnd dt outcome s
  | .pageWriteEnd dt outcome => Sys2Proof.Machine.execPageWriteEnd dt outcome s
  | .hlrxByte dt b framingError => Sys2Proof.Machine.execHlrxByte dt b framingError s
  | .gapTimerExpiry => Sys2Proof.Machine.execGapTimerExpiry s
  | .replySent dt => Sys2Proof.Machine.execReplySent dt s
  | .unknownKind dt tag kind body => Sys2Proof.Machine.execUnknownKind dt tag kind body s
  | .getStatus dt tag => Sys2Proof.Machine.execGetStatus dt tag s
  | .getInputs dt tag => Sys2Proof.Machine.execGetInputs dt tag s
  | .getTank dt tag tank => Sys2Proof.Machine.execGetTank dt tag tank s
  | .fetchNotices dt tag => Sys2Proof.Machine.execFetchNotices dt tag s
  | .setNoticeMask dt tag mask => Sys2Proof.Machine.execSetNoticeMask dt tag mask s
  | .engageDrive dt tag drive => Sys2Proof.Machine.execEngageDrive dt tag drive s
  | .releaseDrive dt tag drive => Sys2Proof.Machine.execReleaseDrive dt tag drive s
  | .reclaimAuthority dt tag => Sys2Proof.Machine.execReclaimAuthority dt tag s
  | .silenceAlarm dt tag => Sys2Proof.Machine.execSilenceAlarm dt tag s
  | .clearFillFault dt tag => Sys2Proof.Machine.execClearFillFault dt tag s
  | .confirmLockout dt tag slot => Sys2Proof.Machine.execConfirmLockout dt tag slot s
  | .overrideLockout dt tag slot seconds => Sys2Proof.Machine.execOverrideLockout dt tag slot seconds s
  | .cancelOverride dt tag slot => Sys2Proof.Machine.execCancelOverride dt tag slot s
  | .getLockouts dt tag => Sys2Proof.Machine.execGetLockouts dt tag s
  | .readRecords dt tag sequence count => Sys2Proof.Machine.execReadRecords dt tag sequence count s
  | .getAccumulators dt tag => Sys2Proof.Machine.execGetAccumulators dt tag s
  | .markRecord dt tag text => Sys2Proof.Machine.execMarkRecord dt tag text s
  | .setTime dt tag seconds => Sys2Proof.Machine.execSetTime dt tag seconds s
  | .profileRead dt tag source sect offset count => Sys2Proof.Machine.execProfileRead dt tag source sect offset count s
  | .profileWrite dt tag sect offset bytes => Sys2Proof.Machine.execProfileWrite dt tag sect offset bytes s
  | .profileApply dt tag => Sys2Proof.Machine.execProfileApply dt tag s
  | .profileDiscard dt tag => Sys2Proof.Machine.execProfileDiscard dt tag s
  | .softRestart dt tag => Sys2Proof.Machine.execSoftRestart dt tag s

end Sys2Proof.Machine
end

