-- ==== Sys2Proof/Safety.lean ====
section
/-! DEFINITION. What a safe state of the part is: the laws the manual states of every state, in the terms
the statements use. -/

namespace Sys2Proof.Safety

open Sys2Proof.Machine

/-- Both images of the profile area stand in their canonical form. -/
abbrev ImagesCanonical (s : State) : Prop := s.pfu.active.wf = true ∧ s.pfu.edit.wf = true

/-- Every output but the Lockout Unit's DO3 and DO7 stands as its owner's record commands it (R53, R69, R102, R109,
R138). -/
abbrev OutputsFollow (s : State) : Prop :=
  tauOutputs s.tau = s.tau ∧ deuOutputs s.deu = s.deu ∧ ppuOutputs s.ppu = s.ppu ∧
    s.lbu.valve.do6 = decide (s.lbu.valve.state = .opened)

/-- The notice queue and ATTN# (R173, R174). -/
abbrev NoticesKept (s : State) : Prop :=
  s.lnk.notices.length ≤ noticeCapacity ∧ s.lnk.attnLow = !s.lnk.notices.isEmpty ∧
    s.lnk.lost ≤ 65535 ∧ s.lnk.mask.toNat < 4096

/-- The link fault counters (R166). -/
abbrev CountersBounded (s : State) : Prop :=
  s.lnk.faults.gap ≤ 65535 ∧ s.lnk.faults.crc ≤ 65535 ∧ s.lnk.faults.length ≤ 65535 ∧
    s.lnk.faults.byteError ≤ 65535 ∧ s.lnk.faults.overrun ≤ 65535

/-- The accumulators and the staging queue (R148, R155, R159). -/
abbrev RecorderBounded (s : State) : Prop :=
  s.drc.acc.mainRunS ≤ top32 ∧ s.drc.acc.auxRunS ≤ top32 ∧ s.drc.acc.rollM ≤ top32 ∧
    s.drc.acc.waterL ≤ top32 ∧ s.drc.acc.engagementsMain ≤ 65535 ∧ s.drc.acc.engagementsAux ≤ 65535 ∧
    s.drc.queue.length ≤ stagingCapacity ∧ s.drc.lostCount ≤ 65535 ∧
    (s.drc.state = .failed → s.drc.queue = [] ∧ s.drc.syncTimer = .stopped)

/-- The override list and the road-gear inhibit (R115, R126). -/
abbrev LockoutsKept (s : State) : Prop :=
  s.lku.overrides.length ≤ overrideCapacity ∧ (s.lku.overrides.map (·.slot)).Nodup ∧
    s.lku.table.length = 16 ∧ s.lku.records.length = 16 ∧
    (s.lku.builtInActive = true → s.lku.do3 = true) ∧ (s.deu.adopted = false → s.lku.startHold = true)

/-- A profile is in use exactly as the configuration state says, and has 16 lockout slots (R117, R180,
R183). -/
def ProfileInForce (s : State) : Prop :=
  (match s.pfu.conf with
    | .loading => s.pfu.inUse = none
    | .unconfigured => s.pfu.inUse = none
    | .configured => s.pfu.inUse.isSome = true
    | .applying => True) ∧
  (∀ p, s.pfu.inUse = some p → p.lockouts.length = 16)

/-- A profile in use is that of an image that passes the field checks, and so is the edit image that an
apply writes (R178, R181, R183, R184). -/
def ProfileSound (s : State) : Prop :=
  (∀ p, s.pfu.inUse = some p → ∃ m, fieldFinding m = none ∧ p = profileOf m) ∧
  (∀ page again, s.pfu.task = .apply page again → s.pfu.conf = .applying ∧ fieldFinding s.pfu.edit = none)

/-- No publication is left waiting between commands. -/
abbrev Quiet (s : State) : Prop := s.agenda = []

/-- The laws together. -/
def Lawful (s : State) : Prop :=
  ImagesCanonical s ∧ OutputsFollow s ∧ NoticesKept s ∧ CountersBounded s ∧ RecorderBounded s ∧
    LockoutsKept s ∧ ProfileInForce s ∧ Quiet s

/-! ## The shift slot and the sets -/

/-- A drive under way between road and pump holds the shift slot (R68). -/
def holdsSlot (r : DriveRec) : Bool :=
  r.state = .shifting || r.state = .releasing || (r.state = .faulted && r.phase = .restore)

/-- The shift slot is lent to every drive that is under way, which then has no release pending; the waiting list
holds exactly the drives in PREPARING and those with a release pending, each once; a release is pending only in
ENGAGED, ROLLING or FAULTED; before adoption both drives read DISENGAGED; and a sequence timer has the purpose RESTORE
only in a road restore (R64, R67, R68, R75, R89). -/
def SlotLent (s : State) : Prop :=
  s.deu.waiting.Nodup ∧
  ∀ d, let r := s.deu.drives.get d
    (holdsSlot r = true → s.deu.holder = some d ∧ r.pendingRelease = .none) ∧
    (d ∈ s.deu.waiting ↔ r.state = .preparing ∨ r.pendingRelease ≠ .none) ∧
    (r.pendingRelease ≠ .none → r.state.turning = true ∨ r.state = .faulted) ∧
    (s.deu.adopted = false → r.state = .disengaged) ∧
    (r.seqPurpose = some .restore → r.state = .faulted ∧ r.phase = .restore)

/-- The alarm cause set and the cut demand set hold no duplicates (R107, R137). -/
def SetsDistinct (s : State) : Prop := (s.ppu.alarms.map (·.cause)).Nodup ∧ s.tau.cuts.Nodup

/-- No accumulator of `a` exceeds its value in `b`. -/
abbrev AccumulatorsAtMost (a b : Accumulators) : Prop :=
  a.mainRunS ≤ b.mainRunS ∧ a.auxRunS ≤ b.auxRunS ∧ a.rollM ≤ b.rollM ∧ a.waterL ≤ b.waterL ∧
    a.engagementsMain ≤ b.engagementsMain ∧ a.engagementsAux ≤ b.engagementsAux

/-! ## What a command's own effect leaves unchanged -/

/-- Every block but one stands as before, and so do the RATE pin, the queue of commands and the schedule;
the port has at most begun what waited for it. The Link Unit is spoken of apart. -/
def OthersKept (b : Block) (s t : State) : Prop :=
  (b ≠ .isu → t.isu = s.isu) ∧ (b ≠ .tgu → t.tgu = s.tgu) ∧ (b ≠ .lbu → t.lbu = s.lbu) ∧
  (b ≠ .deu → t.deu = s.deu) ∧ (b ≠ .ppu → t.ppu = s.ppu) ∧ (b ≠ .lku → t.lku = s.lku) ∧
  (b ≠ .tau → t.tau = s.tau) ∧ (b ≠ .drc → t.drc = s.drc) ∧ (b ≠ .pfu → t.pfu = s.pfu) ∧
  (b ≠ .drc → b ≠ .pfu → t.port = s.port.serve) ∧
  t.ratePinHigh = s.ratePinHigh ∧ t.schedule = s.schedule ∧ t.pending = s.pending

/-- Of the Link Unit, only the notice queue, ATTN# and the lost-notice count may differ. -/
def NoticesOnly (a b : Lnk) : Prop :=
  b = { a with notices := b.notices, attnLow := b.attnLow, lost := b.lost }

/-- The state right after a block's own event within a command taken at `time`, before its neighbours take
what it handed over. -/
def Acts (b : Block) (time : Micros) (s t : State) : Prop :=
  t.now = time ∧ OthersKept b s t ∧ NoticesOnly s.lnk t.lnk

/-- The same for a request: the request is in service with the reply given, formed or not. -/
def Serves (b : Block) (time : Micros) (kind tag : Byte) (reply : Option (List Byte)) (s t : State) : Prop :=
  t.now = time ∧ OthersKept b s t ∧
    NoticesOnly { s.lnk with service := some ⟨kind, tag, reply.map (replyFrame kind tag)⟩ } t.lnk

/-- A request can enter service at once: none is in service and no restart is pending (R167, R171). -/
abbrev LinkFree (s : State) : Prop := s.lnk.service = none ∧ s.lnk.restart = none

/-- What the commands that bring neither a scan nor a change of configuration leave unchanged, once every
neighbour has taken what was handed to it. -/
def InputsAndProfileKept (s t : State) : Prop :=
  t.isu = s.isu ∧ t.tgu = s.tgu ∧ t.pfu = s.pfu ∧ t.ratePinHigh = s.ratePinHigh ∧ t.pending = s.pending ∧
    t.lnk.rx = s.lnk.rx ∧ t.lnk.gapTimer = s.lnk.gapTimer ∧ t.lnk.waiting = s.lnk.waiting ∧
    t.lnk.mask = s.lnk.mask ∧ t.lnk.faults = s.lnk.faults ∧ t.lnk.baudHigh = s.lnk.baudHigh

/-! ## Requests as frames (R190) -/

/-- The time before a request command and the frame it brings; none for a command that is no request. -/
def requestFrame : Instr → Option (Micros × Frame)
  | .unknownKind dt tag kind body => some (dt, ⟨kind, tag, body⟩)
  | .getStatus dt tag => some (dt, ⟨0x01#8, tag, []⟩)
  | .getInputs dt tag => some (dt, ⟨0x02#8, tag, []⟩)
  | .getTank dt tag tank => some (dt, ⟨0x03#8, tag, [tank]⟩)
  | .fetchNotices dt tag => some (dt, ⟨0x04#8, tag, []⟩)
  | .setNoticeMask dt tag mask => some (dt, ⟨0x05#8, tag, field16 mask⟩)
  | .engageDrive dt tag drive => some (dt, ⟨0x10#8, tag, [drive]⟩)
  | .releaseDrive dt tag drive => some (dt, ⟨0x11#8, tag, [drive]⟩)
  | .reclaimAuthority dt tag => some (dt, ⟨0x18#8, tag, []⟩)
  | .silenceAlarm dt tag => some (dt, ⟨0x19#8, tag, []⟩)
  | .clearFillFault dt tag => some (dt, ⟨0x1A#8, tag, []⟩)
  | .confirmLockout dt tag slot => some (dt, ⟨0x20#8, tag, [slot]⟩)
  | .overrideLockout dt tag slot seconds => some (dt, ⟨0x21#8, tag, slot :: field16 seconds⟩)
  | .cancelOverride dt tag slot => some (dt, ⟨0x22#8, tag, [slot]⟩)
  | .getLockouts dt tag => some (dt, ⟨0x23#8, tag, []⟩)
  | .readRecords dt tag sequence count => some (dt, ⟨0x28#8, tag, field32 sequence ++ [count]⟩)
  | .getAccumulators dt tag => some (dt, ⟨0x29#8, tag, []⟩)
  | .markRecord dt tag text => some (dt, ⟨0x2A#8, tag, text.toList⟩)
  | .setTime dt tag seconds => some (dt, ⟨0x2B#8, tag, field32 seconds⟩)
  | .profileRead dt tag source sect offset count =>
    some (dt, ⟨0x30#8, tag, [source, sect] ++ field16 offset ++ [count]⟩)
  | .profileWrite dt tag sect offset bytes =>
    some (dt, ⟨0x31#8, tag, sect :: (field16 offset ++ bytes)⟩)
  | .profileApply dt tag => some (dt, ⟨0x32#8, tag, []⟩)
  | .profileDiscard dt tag => some (dt, ⟨0x33#8, tag, []⟩)
  | .softRestart dt tag => some (dt, ⟨0x3F#8, tag, []⟩)
  | .powerOnReset _ => none
  | .pinReset _ => none
  | .scan _ _ => none
  | .pulse _ _ => none
  | .holdTimerExpiry _ => none
  | .stillTimerExpiry => none
  | .recoveryTimerExpiry => none
  | .gaugeCycle => none
  | .recloseTimerExpiry => none
  | .lowPressureTimerExpiry => none
  | .noRiseTimerExpiry => none
  | .permissiveTimerExpiry _ => none
  | .confirmTimerExpiry _ => none
  | .retryOffExpiry _ => none
  | .restoreTimerExpiry => none
  | .idleTimerExpiry _ => none
  | .positionTimerExpiry _ => none
  | .overspeedTimerExpiry => none
  | .slipTimerExpiry _ => none
  | .stallTimerExpiry _ => none
  | .persistTimerExpiry _ _ => none
  | .dryTimerExpiry _ => none
  | .dryRunClearExpiry _ => none
  | .overrideTimerExpiry _ => none
  | .transferTimerExpiry => none
  | .reclaimTimerExpiry => none
  | .syncTimerExpiry => none
  | .halfPageWriteEnd _ _ => none
  | .slotReadEnd _ _ => none
  | .pageReadEnd _ _ => none
  | .pageWriteEnd _ _ => none
  | .hlrxByte _ _ _ => none
  | .gapTimerExpiry => none
  | .replySent _ => none

/-- The bytes of a frame behind its sync byte, CRC included (R189). -/
def frameBytes (f : Frame) : List Byte :=
  let covered := byte f.body.length :: f.kind :: f.tag :: f.body
  covered ++ crcBytes covered

/-- The timers of the blocks that neither scan, gauge, watch the supply nor receive bytes. -/
def isBlockExpiry : Instr → Bool
  | .recloseTimerExpiry => true
  | .lowPressureTimerExpiry => true
  | .noRiseTimerExpiry => true
  | .permissiveTimerExpiry _ => true
  | .confirmTimerExpiry _ => true
  | .retryOffExpiry _ => true
  | .restoreTimerExpiry => true
  | .idleTimerExpiry _ => true
  | .positionTimerExpiry _ => true
  | .overspeedTimerExpiry => true
  | .slipTimerExpiry _ => true
  | .stallTimerExpiry _ => true
  | .persistTimerExpiry _ _ => true
  | .dryTimerExpiry _ => true
  | .dryRunClearExpiry _ => true
  | .overrideTimerExpiry _ => true
  | .transferTimerExpiry => true
  | .reclaimTimerExpiry => true
  | .syncTimerExpiry => true
  | _ => false

/-- A command that ends a power-on or a pin reset. -/
def isReset : Instr → Bool
  | .powerOnReset _ => true
  | .pinReset _ => true
  | _ => false

end Sys2Proof.Safety
end

