-- ==== Sys2Proof/Laws/PerInstr.lean ====
section
/-! SUPPORT. What is said of every command as syntax, one lemma for each constructor of Instr. -/

namespace Sys2Proof.Laws.Framed

open Sys2Proof.Machine Sys2Proof.Safety

/-- A well-formed request fits a frame, and a request of the table has a body its kind allows (R189, R190). -/
def Statement (i : Instr) : Prop :=
  i.wellFormed = true → ∀ dt f, requestFrame i = some (dt, f) →
    f.body.length ≤ 120 ∧
      (requestKinds.contains f.kind = true → lengthAllowed f.kind.toNat f.body.length = true)

/-- A command that is no request says nothing of frames. -/
theorem of_none {i : Instr} (h : requestFrame i = none) : Statement i := by
  intro _ dt f hf
  rw [h] at hf
  exact absurd hf (by simp)

/-- A request whose body has one length, the one its kind allows. -/
theorem of_length {i : Instr} {dt : Micros} {f : Frame} (h : requestFrame i = some (dt, f)) (n : Nat)
    (hn : f.body.length = n) (h120 : n ≤ 120) (ha : lengthAllowed f.kind.toNat n = true) :
    Statement i := by
  intro _ dt' f' hf
  rw [h] at hf
  obtain ⟨rfl, rfl⟩ : dt = dt' ∧ f = f' := by simpa using hf
  exact ⟨hn ▸ h120, fun _ => hn ▸ ha⟩

theorem powerOnReset (rateHigh : Bool) : Statement (.powerOnReset rateHigh) :=
  of_none rfl

theorem pinReset (rateHigh : Bool) : Statement (.pinReset rateHigh) :=
  of_none rfl

theorem scan (codes : Vector (BitVec 12) 16) (samples : BitVec 12) : Statement (.scan codes samples) :=
  of_none rfl

theorem pulse (dt : Micros) (pin : PulseIn) : Statement (.pulse dt pin) :=
  of_none rfl

theorem holdTimerExpiry (pin : PulseIn) : Statement (.holdTimerExpiry pin) :=
  of_none rfl

theorem stillTimerExpiry : Statement .stillTimerExpiry :=
  of_none rfl

theorem recoveryTimerExpiry : Statement .recoveryTimerExpiry :=
  of_none rfl

theorem gaugeCycle : Statement .gaugeCycle :=
  of_none rfl

theorem recloseTimerExpiry : Statement .recloseTimerExpiry :=
  of_none rfl

theorem lowPressureTimerExpiry : Statement .lowPressureTimerExpiry :=
  of_none rfl

theorem noRiseTimerExpiry : Statement .noRiseTimerExpiry :=
  of_none rfl

theorem permissiveTimerExpiry (drive : Drive) : Statement (.permissiveTimerExpiry drive) :=
  of_none rfl

theorem confirmTimerExpiry (drive : Drive) : Statement (.confirmTimerExpiry drive) :=
  of_none rfl

theorem retryOffExpiry (drive : Drive) : Statement (.retryOffExpiry drive) :=
  of_none rfl

theorem restoreTimerExpiry : Statement .restoreTimerExpiry :=
  of_none rfl

theorem idleTimerExpiry (drive : Drive) : Statement (.idleTimerExpiry drive) :=
  of_none rfl

theorem positionTimerExpiry (drive : Drive) : Statement (.positionTimerExpiry drive) :=
  of_none rfl

theorem overspeedTimerExpiry : Statement .overspeedTimerExpiry :=
  of_none rfl

theorem slipTimerExpiry (drive : Drive) : Statement (.slipTimerExpiry drive) :=
  of_none rfl

theorem stallTimerExpiry (drive : Drive) : Statement (.stallTimerExpiry drive) :=
  of_none rfl

theorem persistTimerExpiry (pump : Drive) (watch : Threshold) : Statement (.persistTimerExpiry pump watch) :=
  of_none rfl

theorem dryTimerExpiry (pump : Drive) : Statement (.dryTimerExpiry pump) :=
  of_none rfl

theorem dryRunClearExpiry (pump : Drive) : Statement (.dryRunClearExpiry pump) :=
  of_none rfl

theorem overrideTimerExpiry (slot : Fin 16) : Statement (.overrideTimerExpiry slot) :=
  of_none rfl

theorem transferTimerExpiry : Statement .transferTimerExpiry :=
  of_none rfl

theorem reclaimTimerExpiry : Statement .reclaimTimerExpiry :=
  of_none rfl

theorem syncTimerExpiry : Statement .syncTimerExpiry :=
  of_none rfl

theorem halfPageWriteEnd (dt : Micros) (outcome : WriteEnd) : Statement (.halfPageWriteEnd dt outcome) :=
  of_none rfl

theorem slotReadEnd (dt : Micros) (outcome : SlotEnd) : Statement (.slotReadEnd dt outcome) :=
  of_none rfl

theorem pageReadEnd (dt : Micros) (outcome : PageEnd) : Statement (.pageReadEnd dt outcome) :=
  of_none rfl

theorem pageWriteEnd (dt : Micros) (outcome : WriteEnd) : Statement (.pageWriteEnd dt outcome) :=
  of_none rfl

theorem hlrxByte (dt : Micros) (byte : Byte) (framingError : Bool) : Statement (.hlrxByte dt byte framingError) :=
  of_none rfl

theorem gapTimerExpiry : Statement .gapTimerExpiry :=
  of_none rfl

theorem replySent (dt : Micros) : Statement (.replySent dt) :=
  of_none rfl

theorem getStatus (dt : Micros) (tag : Byte) :
    Statement (.getStatus dt tag) := of_length rfl 0 rfl (by decide) rfl

theorem getInputs (dt : Micros) (tag : Byte) :
    Statement (.getInputs dt tag) := of_length rfl 0 rfl (by decide) rfl

theorem getTank (dt : Micros) (tag tank : Byte) :
    Statement (.getTank dt tag tank) := of_length rfl 1 rfl (by decide) rfl

theorem fetchNotices (dt : Micros) (tag : Byte) :
    Statement (.fetchNotices dt tag) := of_length rfl 0 rfl (by decide) rfl

theorem setNoticeMask (dt : Micros) (tag : Byte) (mask : BitVec 16) :
    Statement (.setNoticeMask dt tag mask) := of_length rfl 2 rfl (by decide) rfl

theorem engageDrive (dt : Micros) (tag drive : Byte) :
    Statement (.engageDrive dt tag drive) := of_length rfl 1 rfl (by decide) rfl

theorem releaseDrive (dt : Micros) (tag drive : Byte) :
    Statement (.releaseDrive dt tag drive) := of_length rfl 1 rfl (by decide) rfl

theorem reclaimAuthority (dt : Micros) (tag : Byte) :
    Statement (.reclaimAuthority dt tag) := of_length rfl 0 rfl (by decide) rfl

theorem silenceAlarm (dt : Micros) (tag : Byte) :
    Statement (.silenceAlarm dt tag) := of_length rfl 0 rfl (by decide) rfl

theorem clearFillFault (dt : Micros) (tag : Byte) :
    Statement (.clearFillFault dt tag) := of_length rfl 0 rfl (by decide) rfl

theorem confirmLockout (dt : Micros) (tag slot : Byte) :
    Statement (.confirmLockout dt tag slot) := of_length rfl 1 rfl (by decide) rfl

theorem overrideLockout (dt : Micros) (tag slot : Byte) (seconds : BitVec 16) :
    Statement (.overrideLockout dt tag slot seconds) := of_length rfl 3 rfl (by decide) rfl

theorem cancelOverride (dt : Micros) (tag slot : Byte) :
    Statement (.cancelOverride dt tag slot) := of_length rfl 1 rfl (by decide) rfl

theorem getLockouts (dt : Micros) (tag : Byte) :
    Statement (.getLockouts dt tag) := of_length rfl 0 rfl (by decide) rfl

theorem readRecords (dt : Micros) (tag : Byte) (sequence : BitVec 32) (count : Byte) :
    Statement (.readRecords dt tag sequence count) := of_length rfl 5 rfl (by decide) rfl

theorem getAccumulators (dt : Micros) (tag : Byte) :
    Statement (.getAccumulators dt tag) := of_length rfl 0 rfl (by decide) rfl

theorem markRecord (dt : Micros) (tag : Byte) (text : Vector Byte 16) :
    Statement (.markRecord dt tag text) := of_length rfl 16 (by simp) (by decide) rfl

theorem setTime (dt : Micros) (tag : Byte) (seconds : BitVec 32) :
    Statement (.setTime dt tag seconds) := of_length rfl 4 rfl (by decide) rfl

theorem profileRead (dt : Micros) (tag source sect : Byte) (offset : BitVec 16) (count : Byte) :
    Statement (.profileRead dt tag source sect offset count) := of_length rfl 5 rfl (by decide) rfl

theorem profileApply (dt : Micros) (tag : Byte) :
    Statement (.profileApply dt tag) := of_length rfl 0 rfl (by decide) rfl

theorem profileDiscard (dt : Micros) (tag : Byte) :
    Statement (.profileDiscard dt tag) := of_length rfl 0 rfl (by decide) rfl

theorem softRestart (dt : Micros) (tag : Byte) :
    Statement (.softRestart dt tag) := of_length rfl 0 rfl (by decide) rfl

theorem unknownKind (dt : Micros) (tag kind : Byte) (body : List Byte) :
    Statement (.unknownKind dt tag kind body) := by
  intro hw dt' f hf
  simp only [Instr.wellFormed, Bool.and_eq_true, Bool.not_eq_true', decide_eq_true_eq] at hw
  simp only [requestFrame, Option.some.injEq, Prod.mk.injEq] at hf
  obtain ⟨-, rfl⟩ := hf
  exact ⟨hw.2, fun h => by rw [hw.1] at h; exact absurd h (by simp)⟩

theorem profileWrite (dt : Micros) (tag sect : Byte) (offset : BitVec 16) (bytes : List Byte) :
    Statement (.profileWrite dt tag sect offset bytes) := by
  intro hw dt' f hf
  simp only [Instr.wellFormed, Bool.and_eq_true, decide_eq_true_eq] at hw
  simp only [requestFrame, Option.some.injEq, Prod.mk.injEq] at hf
  obtain ⟨-, rfl⟩ := hf
  have hl : (sect :: (field16 offset ++ bytes)).length = bytes.length + 3 := by
    simp [field16, be16]
  refine ⟨by simp only [hl]; omega, fun _ => ?_⟩
  simp only [hl]
  have hk : (0x31#8).toNat = 0x31 := rfl
  rw [hk]
  simp only [lengthAllowed, Bool.and_eq_true, decide_eq_true_eq]
  omega

end Sys2Proof.Laws.Framed
end

