-- ==== Sys2Proof/Certificates/Slice0/Obligations.lean ====
section
/-! DEFINITION. The statements for the provers. A statement about one command speaks of `t`, the next state the
command answers, where nothing a neighbour does afterwards can change what is said; otherwise it speaks of `u`,
the state right after the block's own event, and says that the command answers `u.finish`, in which the
neighbours have taken what was handed to them. -/

section

open Sys2Proof Sys2Proof.Machine Sys2Proof.Safety

/-! ## The queue and every command -/

/-- A step takes the command at the front of the queue and is that command's effect with the queue's rest; on an
empty queue the part idles, which is the model's choice (log entry 1). -/
def Obligations.StepTakesTheFrontCommand : Prop :=
  ∀ s : State,
    (∀ c rest, s.pending = c :: rest → step s = exec c { s with pending := rest }) ∧
    (s.pending = [] → step s = .next s)

/-- Every command answers a next state in every state: none stops the part. That is so in every state because the
expiry of a timer that does not run and the end of an operation not in progress change nothing, the model's choices
(log entries 2 and 29). No command touches the queue of commands; a part whose publications are all taken has them all
taken afterwards, which also holds because the model drops what is left after 4,096 deliveries (log entry 4); and the
time goes back only where a reset or a soft restart counts it from 0 again. -/
def Obligations.EveryCommandAnswersAndLeavesTheQueue : Prop :=
  ∀ (c : Instr) (s : State), ∃ t, exec c s = .next t ∧ t.pending = s.pending ∧
    (s.agenda = [] → t.agenda = []) ∧
    (isReset c = false → s.lnk.restart = none → s.now ≤ t.now)

/-- Every well-formed request fits a frame, and a request of the table has a body of a length that its kind
allows, so that no request command of the table is answered BAD_LENGTH (R168, R189, R190). -/
def Obligations.EveryRequestFitsItsKind : Prop := ∀ i : Instr, Sys2Proof.Laws.Framed.Statement i

/-! ## Resets -/

/-- POWER_ON_RESET and PIN_RESET complete in every state and leave every block in its state after reset, the
RATE strap sampled and the link fault counters 0; the queue of commands is kept, and the schedule of log entry 3
with it (the model's own). -/
def Obligations.HardResetsLeaveTheResetState : Prop :=
  ∀ (high : Bool) (s : State),
    exec (.powerOnReset high) s = exec (.pinReset high) s ∧
    exec (.powerOnReset high) s = .next { State.reset with
      ratePinHigh := high, lnk := { State.reset.lnk with baudHigh := high }
      schedule := s.schedule, pending := s.pending }

/-- What the reset state holds, block by block: the values of the tables of R17, R43, R62, R94, R112, R133,
R146, R164, R177 and R186. That motion armed is yes in AUX's record as in MAIN's is the model's choice (log entry
47). The state meets every law below that a step keeps. -/
def Obligations.ResetStateHoldsTheTablesOfValues : Prop :=
  let s := State.reset
  (s.isu.scanTimer = .running 10000 ∧ s.isu.stillTimer = .running 2000000 ∧ s.isu.roadStill = false ∧
    (∀ e ∈ s.isu.entries, e.role = .unused) ∧
    (∀ c ∈ s.isu.channels, c.health = .unknown ∧ c.lastGood = none ∧ c.hold = 51) ∧
    (∀ p, (s.isu.pulses.get p).state = .stopped ∧ (s.isu.pulses.get p).period = none ∧
      s.holdMaxMs p = if p = .road then 2000 else 500) ∧ s.stillMs = 2000 ∧
    (∀ d, s.level d = false ∧ s.changed d = false) ∧ s.isu.pub.split = .between ∧ s.isu.pub.supplyMv = 0 ∧
    s.isu.pub.supplyHealth = .unknown) ∧
  (s.tgu.gaugeTimer = .running 50000 ∧ s.tgu.stillCount = 0 ∧
    (∀ t, s.tgu.gauges.get t = .notComputed ∧ (s.tgu.keeps.get t).f = none ∧
      (s.tgu.keeps.get t).v = none ∧ (s.tgu.keeps.get t).u = none ∧
      (s.tgu.keeps.get t).history = [] ∧ (s.tgu.keeps.get t).reinit = true) ∧
    s.tgu.tilt = ⟨0, 0, .none, .none, .no⟩) ∧
  ((∀ t, s.lbu.bands.get t = ⟨.unknown, .none, 0, .lost⟩) ∧ s.lbu.valve.state = .closed ∧
    s.lbu.valve.reclose = .stopped ∧ s.lbu.valve.lowPressure = .stopped ∧ s.lbu.valve.noRise = .stopped) ∧
  ((∀ d, (s.deu.drives.get d).state = .disengaged ∧ (s.deu.drives.get d).cause = none ∧
      (s.deu.drives.get d).fault = none ∧ (s.deu.drives.get d).retryUsed = false ∧
      (s.deu.drives.get d).phase = .none ∧ (s.deu.drives.get d).pendingRelease = .none ∧
      (s.deu.drives.get d).seq = .stopped ∧ (s.deu.drives.get d).position = .stopped ∧
      (s.deu.drives.get d).slip = .stopped ∧ (s.deu.drives.get d).stall = .stopped ∧
      (s.deu.drives.get d).overspeed = .stopped ∧ (s.deu.drives.get d).releaseCut = false ∧
      (s.deu.drives.get d).overspeedPosted = false ∧ (s.deu.drives.get d).motionArmed = true) ∧
    s.deu.holder = none ∧ s.deu.waiting = [] ∧ s.deu.adopted = false) ∧
  ((∀ d k, ((s.ppu.watches.get d).get k).state = .clear ∧ ((s.ppu.watches.get d).get k).health = .none ∧
      ((s.ppu.watches.get d).get k).peak = none ∧ ((s.ppu.watches.get d).get k).persist = .stopped ∧
      ((s.ppu.watches.get d).get k).dry = .stopped ∧ ((s.ppu.watches.get d).get k).dryElapsed = false ∧
      ((s.ppu.watches.get d).get k).cutPosted = false) ∧
    (∀ d, s.ppu.sources.get d = .none) ∧ s.ppu.alarms = []) ∧
  (s.lku.startHold = true ∧ s.lku.mainGear = true ∧ s.lku.auxGear = false ∧ (∀ e ∈ s.lku.table, e.inUse = false) ∧ s.lku.overrides = [] ∧
    (∀ r ∈ s.lku.records, r.confirmed = false)) ∧
  (s.tau.state = .cab ∧ s.tau.cause = none ∧ s.tau.cuts = [] ∧ s.tau.resumeHold = false ∧
    s.tau.reclaimPending = false ∧ s.tau.transfer = .stopped ∧ s.tau.reclaim = .stopped) ∧
  (s.drc.state = .recovering ∧ s.drc.acc = ⟨0, 0, 0, 0, 0, 0⟩ ∧ s.drc.restored = false ∧
    s.drc.changed = false ∧ s.drc.runRemainder = ⟨0, 0⟩ ∧ s.drc.distRemainder = 0 ∧ s.drc.lowWater = none ∧ s.drc.queue = [] ∧ s.drc.lostCount = 0 ∧
    s.drc.head = none ∧ s.drc.nextSeq = none ∧ s.drc.oldest = none ∧ s.seconds = 0 ∧
    s.drc.timeBase.synced = false ∧ s.drc.syncTimer = .running 600000000) ∧
  (s.lnk.rx = none ∧ s.lnk.gapTimer = .stopped ∧ s.lnk.service = none ∧ s.lnk.waiting = none ∧
    s.lnk.notices = [] ∧ s.lnk.attnLow = false ∧ s.lnk.mask = 0 ∧ s.lnk.lost = 0 ∧
    s.lnk.faults = ⟨0, 0, 0, 0, 0⟩) ∧
  (s.pfu.conf = .loading ∧ s.pfu.inUse = none ∧ s.pfu.supply = .droop ∧ s.pfu.lowCount = 0 ∧
    s.pfu.highCount = 0 ∧ s.pfu.recovery = .stopped ∧ s.port.busy = none ∧ s.port.last = none) ∧
  (s.deu.do0 = false ∧ s.deu.do1 = false ∧ s.deu.do2 = false ∧ s.lku.do3 = true ∧ s.tau.do4 = false ∧
    s.tau.do5 = false ∧ s.lbu.valve.do6 = false ∧ s.lku.do7 = false ∧ s.ppu.do8 = false ∧ s.ppu.do9 = false) ∧
  (Lawful s ∧ SlotLent s ∧ SetsDistinct s ∧ ProfileSound s)

/-! ## Laws that every step keeps, from every state that meets them -/

/-- Both images of the profile area keep their canonical form: addresses strictly rising, no byte that reads as
erased. The form is the model's own (log entry 7). -/
def Obligations.StepKeepsImagesCanonical : Prop :=
  ∀ s t, ImagesCanonical s → step s = .next t → ImagesCanonical t

/-- DO0, DO1, DO2, DO4, DO5, DO6, DO8 and DO9 stand as their owners' records command them at the end of every step;
of the LKU's outputs DO3 and DO7 `LockoutsFollowTheirTerms` speaks. So DO0 and DO1 are never energised together (R69); while DO5 is asserted DO4 is, the authority is PANEL and no cut is present (R138);
DO8 is asserted exactly while MAIN's OVERHEAT is TRIPPED or RECOVERING (R102), DO9 exactly while some cause is
unsilenced (R109), and DO6 exactly while the valve is OPEN (R53). -/
def Obligations.StepKeepsOutputsCommanded : Prop :=
  ∀ s t, OutputsFollow s → step s = .next t →
    OutputsFollow t ∧ ¬ (t.deu.do0 = true ∧ t.deu.do1 = true) ∧
    (t.tau.do5 = true →
      t.tau.do4 = true ∧ t.tau.state = .panel ∧ t.tau.cuts = [] ∧ t.tau.resumeHold = false) ∧
    (t.tau.do4 = true ↔ (t.tau.state ≠ .cab ∨ t.tau.cuts ≠ [])) ∧
    (t.ppu.do8 = true ↔ (t.ppu.watches.main.overheat.state = .tripped ∨
      t.ppu.watches.main.overheat.state = .recovering)) ∧
    (t.ppu.do9 = true ↔ ∃ a ∈ t.ppu.alarms, a.silenced = false) ∧
    (t.lbu.valve.do6 = true ↔ t.lbu.valve.state = .opened)

/-- The notice queue holds at most 32 notices, ATTN# is low exactly while it holds one, the lost-notice count and
the five link fault counters stop at 65,535, and no mask bit of NOTICES_LOST or of no kind is ever set (R166,
R173, R174). -/
def Obligations.StepKeepsNoticesAndCounters : Prop :=
  ∀ s t, NoticesKept s → CountersBounded s → step s = .next t → NoticesKept t ∧ CountersBounded t

/-- The accumulators and lost_count stop at their largest values, the staging queue holds at most 16 records, and
in FAILED it is empty and the SYNC timer stopped (R148, R155, R159). -/
def Obligations.StepKeepsRecorderBounds : Prop :=
  ∀ s t, RecorderBounded s → step s = .next t → RecorderBounded t

/-- The override list holds at most 4 distinct entries, the table has 16 slots with 16 records, DO3 is asserted
while a built-in lockout is active, START_HOLD stands until adoption is complete, and a profile is in use exactly
as the configuration state says (R114, R115, R117, R126, R180). A profile in use is one whose image passes the field
checks of validation, and an apply only writes such an image (R178, R181, R183). -/
def Obligations.StepKeepsLockoutsAndProfile : Prop :=
  (∀ s t, LockoutsKept s → ProfileInForce s → step s = .next t → LockoutsKept t ∧ ProfileInForce t) ∧
  (∀ s t, ProfileSound s → step s = .next t → ProfileSound t)

/-- A drive in SHIFTING, in RELEASING or in a road restore holds the shift slot, so at most one of the two drives
is in SHIFTING or RELEASING; and the alarm cause set and the cut demand set hold no duplicates (R68, R75, R107,
R137). -/
def Obligations.StepKeepsTheSlotLentAndTheSetsDistinct : Prop :=
  (∀ s t, SlotLent s → step s = .next t →
    SlotLent t ∧
    ¬ ((t.deu.drives.main.state = .shifting ∨ t.deu.drives.main.state = .releasing) ∧
       (t.deu.drives.aux.state = .shifting ∨ t.deu.drives.aux.state = .releasing))) ∧
  (∀ s t, SetsDistinct s → step s = .next t → SetsDistinct t)

/-- Each accumulator only grows, whatever the command, unless it is a reset or a soft restart is pending
(R148). -/
def Obligations.AccumulatorsOnlyGrow : Prop :=
  ∀ (c : Instr) (s t : State), RecorderBounded s → isReset c = false → s.lnk.restart = none →
    exec c s = .next t → AccumulatorsAtMost s.drc.acc t.drc.acc

/-! ## Frames -/

/-- The timer expiries of the LBU, DEU, PPU, LKU, TAU and DRC, followed through every neighbour they reach, leave
the inputs, the gauges, the profile and supply state, the receiver, the mask, the fault counters and the queue of
commands as they were. -/
def Obligations.BlockExpiriesLeaveInputsAndProfile : Prop :=
  ∀ (c : Instr) (s t : State), isBlockExpiry c = true → s.lnk.restart = none → exec c s = .next t →
    InputsAndProfileKept s t

/-- A request that finds one in service waits when no other waits, and is otherwise discarded with OVERRUN raised
by 1; a request that finds a restart pending waits or is discarded in the same way (R167, R171). Nothing else
changes: the port only begins what waited for it, which it does at every command (log entry 8). -/
def Obligations.RequestWaitsOrOverruns : Prop :=
  ∀ (c : Instr) (dt : Micros) (f : Frame) (s : State), requestFrame c = some (dt, f) →
    (s.lnk.service ≠ none ∨ s.lnk.restart ≠ none) → s.lnk.restart ≠ some ⟨true, true⟩ →
    (s.lnk.waiting = none →
      exec c s = .next { s with
        now := s.now + dt, agenda := [], port := s.port.serve
        lnk := { s.lnk with waiting := some f } }) ∧
    (s.lnk.waiting ≠ none →
      exec c s = .next { s with
        now := s.now + dt, agenda := [], port := s.port.serve
        lnk := { s.lnk with faults := { s.lnk.faults with
          overrun := min 65535 (s.lnk.faults.overrun + 1) } } })

/-! ## Inputs -/

/-- PULSE: the input moves from STOPPED to CREEPING with no period, and from CREEPING or RUNNING to RUNNING with the
time since its last pulse as its period, restarting its hold timer; a ROAD pulse also stops the still timer and
ends ROAD_STILL. A pulse that is not the first has a last time in every state a run reaches. Nothing else
changes (R9, R10, R12; a period is at least 1 µs, log entry 18). -/
def Obligations.PulseCompletes : Prop :=
  ∀ (dt : Micros) (pin : PulseIn) (s : State), s.lnk.restart = none →
    let now := s.now + dt
    let r := s.isu.pulses.get pin
    let t (r' : PulseRec) : State := { s with
      now := now, agenda := [], port := s.port.serve
      isu := { s.isu with
        pulses := s.isu.pulses.set pin r'
        stillTimer := if pin = .road then .stopped else s.isu.stillTimer
        roadStill := if pin = .road then false else s.isu.roadStill } }
    (r.state = .stopped →
      exec (.pulse dt pin) s = .next (t ⟨.creeping, some now, none, .running (now + s.holdMaxMs pin * 1000)⟩)) ∧
    (∀ last, r.state ≠ .stopped → r.last = some last → last < now →
      exec (.pulse dt pin) s = .next (t ⟨.running, some now, some (now - last),
        .running (now + min (s.holdMaxMs pin * 1000) (max 20000 ((now - last) * 5 / 2)))⟩))

/-- HOLD_TIMER_EXPIRY takes the input to STOPPED and forgets its period; ROAD entering STOPPED starts the still
timer. STILL_TIMER_EXPIRY with ROAD still STOPPED makes ROAD_STILL true. Nothing else changes (R10, R12; an expiry
taken late acts at the time it is taken, log entry 2). -/
def Obligations.HoldAndStillExpiriesComplete : Prop :=
  ∀ (s : State) (due : Micros), s.lnk.restart = none →
    let time := max s.now due
    (∀ pin, (s.isu.pulses.get pin).hold = .running due →
      exec (.holdTimerExpiry pin) s = .next { s with
        now := time, agenda := [], port := s.port.serve
        isu := { s.isu with
          pulses := s.isu.pulses.set pin ⟨.stopped, none, none, .stopped⟩
          stillTimer := if pin = .road then .running (time + s.stillMs * 1000) else s.isu.stillTimer
          stoppedAt := if pin = .road then time else s.isu.stoppedAt } }) ∧
    (s.isu.stillTimer = .running due → s.isu.pulses.road.state = .stopped →
      exec .stillTimerExpiry s = .next { s with
        now := time, agenda := [], port := s.port.serve
        isu := { s.isu with stillTimer := .stopped, roadStill := true } })

/-- SCAN: once every neighbour has taken the publication, the scan timer runs again from the time it was due, the
pulse records and the gauges are as before, and the published set is the scan's: each channel's code and what its
evaluation gives, the supply in millivolts, the latched pulse inputs, ROAD_STILL, each discrete input debounced
with its change mark, the supply sense channel GOOD, and the split position (R1, R2, R8, R14, R15, R16). -/
def Obligations.ScanCompletes : Prop :=
  ∀ (codes : Vector (BitVec 12) 16) (samples : BitVec 12) (s : State) (due : Micros),
    s.isu.scanTimer = .running due → s.lnk.restart = none →
    s.isu.entries.length = 15 → s.isu.channels.length = 15 → s.isu.debounce.length = 12 →
    ∃ t, exec (.scan codes samples) s = .next t ∧
      t.isu.scanTimer = .running (due + 10000) ∧ t.isu.scanned = true ∧
      t.isu.pulses = s.isu.pulses ∧ t.isu.stillTimer = s.isu.stillTimer ∧ t.isu.roadStill = s.isu.roadStill ∧
      t.isu.entries = s.isu.entries ∧ t.tgu = s.tgu ∧ t.pfu.conf = s.pfu.conf ∧ t.pfu.inUse = s.pfu.inUse ∧
      t.pfu.active = s.pfu.active ∧ t.pfu.edit = s.pfu.edit ∧ t.pending = s.pending ∧
      t.lnk.mask = s.lnk.mask ∧ t.lnk.faults = s.lnk.faults ∧ t.lnk.rx = s.lnk.rx ∧
      (∀ i e ch, ∀ h : i < 15, s.isu.entries[i]? = some e → s.isu.channels[i]? = some ch →
        let code := codes[i].toNat
        t.isu.channels[i]? = some (evalChannel e code ch).1 ∧
        t.isu.pub.channels[i]? =
          some ⟨e.role, code, (evalChannel e code ch).2, (evalChannel e code ch).1.health⟩) ∧
      t.isu.pub.supplyCode = codes[15].toNat ∧ t.isu.pub.supplyMv = codes[15].toNat * 20000 / 4096 ∧
      t.isu.pub.supplyHealth = .good ∧
      (∀ p, t.pulse p = pubPulse s.pfu.inUse p (s.isu.pulses.get p)) ∧
      t.isu.pub.roadStill = s.isu.roadStill ∧
      (∀ n d, n < 12 → s.isu.debounce[n]? = some d →
        let x := samples.getLsbD n
        let after : Debounce :=
          if s.isu.scanned = false then ⟨x, 0⟩
          else if x = d.level then ⟨d.level, 0⟩
          else if d.count < 2 then ⟨d.level, d.count + 1⟩ else ⟨x, 0⟩
        t.isu.debounce[n]? = some after ∧
        t.isu.pub.discretes[n]? = some ⟨after.level, s.isu.scanned && d.level != after.level⟩) ∧
      t.isu.pub.split =
        (match t.level .splitRoadPos, t.level .splitPumpPos with
          | true, false => .road
          | false, true => .pump
          | false, false => .between
          | true, true => .conflict)

/-- The health of a channel. A code is in range from 40 to 4,055, and any code is with full_range yes. Each row of R5's
table gives the health, the last good value, the hold count and the value published, a channel UNUSED having no
converted value (R4). So a channel that was GOOD holds its last good value for exactly 50 consecutive out-of-range scans
and is UNKNOWN from the 51st, still publishing the held value; one good code makes it GOOD again at once (R5). -/
def Obligations.ChannelHoldsForFiftyScans : Prop :=
  ∀ e : Entry,
    (∀ code, goodCode e code = true ↔ e.fullRange = true ∨ 40 ≤ code ∧ code ≤ 4055) ∧
    (∀ code ch, goodCode e code = true →
      let v := if e.role = .unused then none else some (convert e code)
      evalChannel e code ch = (⟨.good, v, 0, .no⟩, v)) ∧
    (∀ code ch, goodCode e code = false →
      (ch.lastGood = none → evalChannel e code ch = (⟨.unknown, none, 51, .no⟩, none)) ∧
      ∀ v, ch.lastGood = some v →
        (ch.health = .good → evalChannel e code ch = (⟨.held, some v, 1, .no⟩, some v)) ∧
        (ch.health = .held → ch.hold < 50 →
          evalChannel e code ch = (⟨.held, some v, ch.hold + 1, .no⟩, some v)) ∧
        (ch.health = .held → ch.hold = 50 → evalChannel e code ch = (⟨.unknown, some v, 51, .no⟩, some v)) ∧
        (ch.health = .unknown → evalChannel e code ch = (⟨.unknown, some v, ch.hold, .no⟩, some v))) ∧
    ∀ (v : Int) (bad : Nat → Nat), (∀ k, goodCode e (bad k) = false) →
      let after (n : Nat) : Channel :=
        (List.range n).foldl (fun ch k => (evalChannel e (bad k) ch).1) ⟨.good, some v, 0, .no⟩
      ∀ n, ((after n).health = (if n = 0 then .good else if n ≤ 50 then .held else .unknown)) ∧
        (after n).hold = min n 51 ∧ (after n).lastGood = some v ∧
        (evalChannel e (bad n) (after n)).2 = some v

/-- Nearest rounding gives the integer nearest the exact quotient, one exactly halfway going away from zero. A
converted value lies in the unit range of its role, and an entry whose end values lie there converts its low code to
its low value and its high code to its high value (5.2, R3, R4). -/
def Obligations.ConversionRoundsToNearest : Prop :=
  (∀ a b : Int, 0 < b →
    (2 * (b * divNearest a b - a)).natAbs ≤ b.natAbs ∧
    (∀ q : Int, 2 * (a - b * q) = b → 0 ≤ a → divNearest a b = q + 1) ∧
    divNearest (-a) b = -divNearest a b) ∧
  ∀ (e : Entry) (lo hi : Int), roleRange e.role = some (lo, hi) → e.loCode < e.hiCode →
    (∀ code, lo ≤ convert e code ∧ convert e code ≤ hi) ∧
    (lo ≤ e.loValue → e.loValue ≤ hi → convert e e.loCode = e.loValue) ∧
    (lo ≤ e.hiValue → e.hiValue ≤ hi → convert e e.hiCode = e.hiValue)

/-- The speed published: 0 for an input in STOPPED or CREEPING; for one in RUNNING, UNKNOWN while no profile is in
use, and otherwise the nearest quotient of R11, lowered to 1,500 for ROAD and to 6,000 for a shaft. -/
def Obligations.PublishedSpeedFollowsThePeriod : Prop :=
  ∀ (inUse : Option Profile) (pin : PulseIn) (r : PulseRec),
    (r.state ≠ .running → speedOf inUse pin r = some 0 ∧ (pubPulse inUse pin r).period = none) ∧
    (∀ period, r.state = .running → r.period = some period →
      (pubPulse inUse pin r).period = some period ∧
      (inUse = none → speedOf inUse pin r = none) ∧
      (∀ p, inUse = some p → pin = .road →
        speedOf inUse pin r =
          some (min 1500 (divNearest 36000000000 (period * p.pulses.road.perKm)).toNat)) ∧
      (∀ p, inUse = some p → pin ≠ .road →
        speedOf inUse pin r =
          some (min 6000 (divNearest 60000000 (period * (p.pulses.get pin).perRev)).toNat)))

/-! ## Tank gauging -/

/-- Stage 4. With a WET probe, H lies between the smallest and the largest estimate of the WET probes and OVER_RANGE is
clear; the grade is GOOD with the spread within the limit and no probe EXCLUDED or SATURATED, and DEGRADED otherwise; H
is the rounded mean of the WET estimates within the limit, and above it the smaller of 2, the middle of 3 and the rounded
mean of the middle two of 4. With none WET and one DRY, H is 0, and the grade is GOOD with a DRY probe at the floor and
no probe EXCLUDED or SATURATED, and DEGRADED otherwise. With none WET or DRY and one SATURATED, H is the largest
estimate of those, DEGRADED and OVER_RANGE. With no probe WET, DRY or SATURATED there is no H (R26, R27). -/
def Obligations.CombinationStaysAmongTheWetProbes : Prop :=
  ∀ (limit : Int) (ps : List Probe), 0 ≤ limit →
    let wet := (ps.filter fun p => p.status = .wet).map (·.estimate)
    let spoilt := ∃ p ∈ ps, p.status = .excluded ∨ p.status = .saturated
    let near := ∀ x ∈ wet, ∀ y ∈ wet, x - y ≤ limit
    ((∃ p ∈ ps, p.status = .wet) →
      ∃ c, combine limit ps = some c ∧ c.overRange = false ∧
        (∃ p ∈ ps, p.status = .wet ∧ p.estimate ≤ c.h) ∧ (∃ p ∈ ps, p.status = .wet ∧ c.h ≤ p.estimate) ∧
        (near ∧ ¬ spoilt → c.grade = .good) ∧ (¬ near ∨ spoilt → c.grade = .degraded) ∧
        (near → c.h = divNearest wet.sum wet.length) ∧
        (¬ near →
          (∀ a b, wet = [a, b] → c.h = min a b) ∧
          (∀ a b d, wet = [a, b, d] → c.h = max (min a b) (min (max a b) d)) ∧
          (∀ a b d e, wet = [a, b, d, e] →
            c.h = divNearest (a + b + d + e - min (min a b) (min d e) - max (max a b) (max d e)) 2))) ∧
    ((∀ p ∈ ps, p.status ≠ .wet) → (∃ p ∈ ps, p.status = .dry) →
      ∃ c, combine limit ps = some c ∧ c.h = 0 ∧ c.overRange = false ∧
        ((∃ p ∈ ps, p.status = .dry ∧ p.z = 0) ∧ ¬ spoilt → c.grade = .good) ∧
        ((∀ p ∈ ps, p.status = .dry → p.z ≠ 0) ∨ spoilt → c.grade = .degraded)) ∧
    ((∀ p ∈ ps, p.status ≠ .wet ∧ p.status ≠ .dry) → (∃ p ∈ ps, p.status = .saturated) →
      ∃ c, combine limit ps = some c ∧ c.grade = .degraded ∧ c.overRange = true ∧
        (∃ p ∈ ps, p.status = .saturated ∧ c.h = p.estimate) ∧
        (∀ p ∈ ps, p.status = .saturated → p.estimate ≤ c.h)) ∧
    ((∀ p ∈ ps, p.status ≠ .wet ∧ p.status ≠ .dry ∧ p.status ≠ .saturated) → combine limit ps = none)

/-- GAUGE_CYCLE: once every neighbour has taken the publication, the gauge timer runs again from the time it was
due and the still-cycle count follows ROAD_STILL (R18, R29). A tank that no profile in use enables is published as
not computed and keeps nothing (R41); one with no usable probe keeps F, V, U and its history, is UNKNOWN and
uncovered, and waits for a reinitialisation (R39; that it does so with those of the old profile after an apply too, and
that a tank loses them at a cycle only, is the model's choice, log entry 43); any other takes the stages of R28 to R38
(`gaugeUsable`). The inputs and the profile are as before. -/
def Obligations.GaugeCycleCompletes : Prop :=
  ∀ (s : State) (due : Micros), s.tgu.gaugeTimer = .running due → s.lnk.restart = none →
    ∃ t, exec .gaugeCycle s = .next t ∧ t.isu = s.isu ∧ t.pfu = s.pfu ∧ t.pending = s.pending ∧
      t.tgu.gaugeTimer = .running (due + 50000) ∧
      t.tgu.stillCount = (if s.isu.pub.roadStill then min 601 (s.tgu.stillCount + 1) else 0) ∧
      (s.pfu.inUse = none → t.tgu.tilt = ⟨0, 0, .none, .none, .no⟩) ∧
      (s.pfu.inUse ≠ none → t.tgu.tilt = readTilt s) ∧
      ∀ tank : Tank,
        (s.tankEntry tank = none →
          t.tgu.gauges.get tank = .notComputed ∧ t.tgu.keeps.get tank = ⟨none, none, none, [], true⟩) ∧
        (∀ e, s.tankEntry tank = some e →
          combine e.spreadLimit (fittedProbes s tank e t.tgu.tilt) = none →
          t.tgu.keeps.get tank = { s.tgu.keeps.get tank with reinit := true } ∧
          (t.tgu.gauges.get tank).quality = .unknown ∧ (t.tgu.gauges.get tank).uncovered = true ∧
          (t.tgu.gauges.get tank).overTop = false ∧ (t.tgu.gauges.get tank).overRange = false ∧
          (t.tgu.gauges.get tank).h = none ∧ (t.tgu.gauges.get tank).residue = none ∧
          (t.tgu.gauges.get tank).rate = none ∧ (t.tgu.gauges.get tank).timeToEmpty = .unknown ∧
          (t.tgu.gauges.get tank).f = (s.tgu.keeps.get tank).f ∧
          (t.tgu.gauges.get tank).v = (s.tgu.keeps.get tank).v ∧
          (t.tgu.gauges.get tank).u = (s.tgu.keeps.get tank).u) ∧
        (∀ e c, s.tankEntry tank = some e →
          combine e.spreadLimit (fittedProbes s tank e t.tgu.tilt) = some c →
          (t.tgu.keeps.get tank, t.tgu.gauges.get tank) =
            gaugeUsable e t.tgu.tilt t.tgu.stillCount (s.tgu.keeps.get tank) c
              (probeStatuses (fittedProbes s tank e t.tgu.tilt)))

/-- A strapping table whose heights rise strictly from 0 and whose volumes do not fall: its conversion never falls as
the height rises and gives each point its volume. A cycle with a usable probe then gives an enabled tank a usable
volume between 0 and the gauged volume, and a gauged volume up to the last of its table; OVER_TOP and
OUTLET_UNCOVERED are set exactly where the filtered height stands above the last strapping height and below the
residue height (R33, R34, R35). -/
def Obligations.UsableVolumeStaysInTheTank : Prop :=
  ∀ e : TankEntry, (e.strap.map (·.height)).Pairwise (· < ·) → (e.strap.map (·.volume)).Pairwise (· ≤ ·) →
    (∃ p rest, e.strap = p :: rest ∧ p.height = 0 ∧ 0 ≤ p.volume) →
    (∀ a b : Int, 0 ≤ a → a ≤ b → e.strapAt a ≤ e.strapAt b) ∧
    (∀ p ∈ e.strap, e.strapAt p.height = p.volume) ∧
    (∀ h : Int, e.lastPoint.height ≤ h → e.strapAt h = e.lastPoint.volume) ∧
    ∀ (tilt : Tilt) (count : Nat) (keep : TankKeep) (c : Combined) (st : List ProbeStatus),
      (∀ f, keep.f = some f → 0 ≤ f ∧ f ≤ e.lastPoint.height + 500) →
      let g := (gaugeUsable e tilt count keep c st).2
      ∃ f v u r, g.f = some f ∧ g.v = some v ∧ g.u = some u ∧ g.residue = some r ∧
        0 ≤ f ∧ f ≤ e.lastPoint.height + 500 ∧ 0 ≤ u ∧ u ≤ v ∧ v ≤ e.lastPoint.volume ∧ 0 ≤ r ∧
        (g.overTop = true ↔ e.lastPoint.height < f) ∧ (g.uncovered = true ↔ f < r)

/-- The slosh filter moves toward H and never beyond it: by all of the distance with k = 16, and otherwise by at
least 1 mm and at most the distance (R30). -/
def Obligations.FilterNeverPassesTheHeight : Prop :=
  ∀ f h : Int, filterStep 16 f h = h ∧
    (∀ k, k = 1 ∨ k = 8 → filterStep k f h = f ∧ h = f ∨
      f < filterStep k f h ∧ filterStep k f h ≤ h ∨ h ≤ filterStep k f h ∧ filterStep k f h < f)

/-- The time to empty: UNKNOWN with the rate UNKNOWN, NOT_DRAINING at a rate of 0 or above, and below 0 the usable
volume times 60 over the rate in whole seconds, truncated and lowered to 5,999, so that a usable volume of 0 gives 0. A
cycle with a usable probe publishes it from the rate and the usable volume it publishes (R38). -/
def Obligations.TimeToEmptyFollowsTheRate : Prop :=
  (∀ u : Int, 0 ≤ u →
    timeToEmpty none u = .unknown ∧
    (∀ r : Int, 0 ≤ r → timeToEmpty (some r) u = .notDraining) ∧
    (∀ r : Int, r < 0 → ∃ n : Nat, timeToEmpty (some r) u = .seconds n ∧ (u = 0 → n = 0) ∧
      ((n : Int) = 5999 ∧ 5999 * (-r) ≤ u * 60 ∨
       (n : Int) < 5999 ∧ n * (-r) ≤ u * 60 ∧ u * 60 < (n + 1) * (-r)))) ∧
  (∀ (e : TankEntry) (tilt : Tilt) (count : Nat) (keep : TankKeep) (c : Combined) (st : List ProbeStatus),
    let g := (gaugeUsable e tilt count keep c st).2
    ∃ u, g.u = some u ∧ 0 ≤ u ∧ g.timeToEmpty = timeToEmpty g.rate u)

/-! ## Level bands and the refill valve -/

/-- A band at a gauge publication: UNKNOWN without a known quality; an UNKNOWN band takes the band whose range contains
U. For a known band the falling condition is U below its lower boundary, and the rising condition U at its upper boundary
plus the hysteresis with the direction rule. The candidate counts the publications in a row at which its condition has
held, and is NONE with 0 where neither holds; a count that meets the limit of the publication's quality, 20 for MOVING
and else 2, moves the band one step, sets the direction and clears the candidate (R46 to R49). Both conditions hold
together for no validated entry (R45, R48); here falling then comes first. -/
def Obligations.BandsMoveOneStepOnEvidence : Prop :=
  ∀ (e : TankEntry) (still : Bool) (g : GaugeRec) (b : BandRec) (u : Int), g.u = some u →
    let b' := bandStep (some e) still g b
    (g.quality = .unknown → b' = ⟨.unknown, .none, 0, .lost⟩) ∧
    (g.quality ≠ .unknown → b.band = .unknown →
      b' = ⟨if u < e.b1 then .empty else if u < e.b2 then .reserve else if u < e.b3 then .low
        else if u < e.b4 then .normal else .full, .none, 0, .initial⟩) ∧
    (g.quality ≠ .unknown → b.band ≠ .unknown →
      let falls : Prop :=
        b.band = .reserve ∧ u < e.b1 ∨ b.band = .low ∧ u < e.b2 ∨ b.band = .normal ∧ u < e.b3 ∨
          b.band = .full ∧ u < e.b4
      let mayRise : Prop := match g.rate with
        | some r => 0 ≤ r
        | none => still = true
      let rises : Prop :=
        mayRise ∧ (b.band = .empty ∧ e.b1 + e.hysteresis ≤ u ∨ b.band = .reserve ∧ e.b2 + e.hysteresis ≤ u ∨
          b.band = .low ∧ e.b3 + e.hysteresis ≤ u ∨ b.band = .normal ∧ e.b4 + e.hysteresis ≤ u)
      let limit := if g.quality = .moving then 20 else 2
      let count (c : Candidate) := if b.candidate = c then b.persist + 1 else 1
      (falls → b' = if limit ≤ count .fall then ⟨b.band.down, .none, 0, .falling⟩
        else ⟨b.band, .fall, count .fall, b.direction⟩) ∧
      (¬ falls → rises → b' = if limit ≤ count .rise then ⟨b.band.up, .none, 0, .rising⟩
        else ⟨b.band, .rise, count .rise, b.direction⟩) ∧
      (¬ falls → ¬ rises → b' = ⟨b.band, .none, 0, b.direction⟩))

/-- LOW_PRESSURE_TIMER_EXPIRY in OPEN closes the valve into WAITING with cause LOW_PRESSURE, and
NO_RISE_TIMER_EXPIRY in OPEN takes it to FAULTED with cause NO_RISE; both start the reclose timer with 5 s, and the
valve stands so once every neighbour has taken what was handed over, the inputs, gauges and profile being as before.
RECLOSE_TIMER_EXPIRY in WAITING reopens the valve, its no-rise timer started, when the opening conditions hold, and
otherwise enters CLOSED with cause GAP_ENDED; in CLOSED it opens the valve when they hold (R54 to R58; an expiry taken
late acts at the time it is taken, log entry 2). -/
def Obligations.FillExpiriesComplete : Prop :=
  ∀ (s : State) (due : Micros),
    let time := max s.now due
    let opened : Valve :=
      ⟨.opened, some .opened, true, .stopped, .stopped,
        .running (time + ((s.refill).map (·.noRiseS)).getD 0 * 1000000)⟩
    (s.lbu.valve.state = .opened → s.lnk.restart = none → s.lbu.valve.lowPressure = .running due →
      ∃ t, exec .lowPressureTimerExpiry s = .next t ∧ t.now = time ∧ InputsAndProfileKept s t ∧
        t.lbu.bands = s.lbu.bands ∧
        t.lbu.valve = ⟨.waiting, some .lowPressure, false, .running (time + 5000000), .stopped, .stopped⟩) ∧
    (s.lbu.valve.state = .opened → s.lnk.restart = none → s.lbu.valve.noRise = .running due →
      ∃ t, exec .noRiseTimerExpiry s = .next t ∧ t.now = time ∧ InputsAndProfileKept s t ∧
        t.lbu.bands = s.lbu.bands ∧
        t.lbu.valve = ⟨.faulted, some .noRise, false, .running (time + 5000000), .stopped, .stopped⟩) ∧
    (s.lbu.valve.reclose = .running due →
      ∃ u, exec .recloseTimerExpiry s = .next u.finish ∧ Acts .lbu time s u ∧ u.lbu.bands = s.lbu.bands ∧
        (s.lbu.valve.state = .waiting →
          u.lbu.valve = if mayOpen s s.lbu.bands.t0.band then opened
            else { s.lbu.valve with reclose := .stopped, state := .closed, cause := some .gapEnded }) ∧
        (s.lbu.valve.state = .closed →
          u.lbu.valve = if mayOpen s s.lbu.bands.t0.band then opened
            else { s.lbu.valve with reclose := .stopped }))

/-- The refill valve goes from closed to OPEN only at an event at which the part is CONFIGURED with refill enabled,
the hydrant input is asserted, the fill pressure is known and good, T0's band is known and below FULL, and no
TANK_FILL lockout is effective; and no event leaves OPEN a valve that must close: an ISU publication with the hydrant
closed, any LKU publication that names TANK_FILL with the lockout effective, a gauge publication with T0 FULL or
UNKNOWN, or an apply accepted (R53, R54, R56). -/
def Obligations.RefillValveOpensOnlyWhenItMay : Prop :=
  ∀ (s : State) (e : Event),
    let t := s.lbuEvent e
    (s.lbu.valve.state ≠ .opened → t.lbu.valve.state = .opened →
      s.pfu.conf = .configured ∧ ((s.refill).map (·.enabled)) = some true ∧
      s.level .hydrantIntakeOpen = true ∧
      (∃ r p, s.refill = some r ∧ s.knownValue (.intakePressure r.pump) = some p ∧ r.minKPa ≤ p) ∧
      t.lbu.bands.t0.band ≠ .unknown ∧ t.lbu.bands.t0.band ≠ .full ∧ s.effective .tankFill = false ∧
      s.lbu.valve.reclose.isRunning = false) ∧
    (t.lbu.valve.state = .opened →
      (e = .inputs → s.level .hydrantIntakeOpen = true) ∧
      (∀ changed, e = .lockouts changed → .tankFill ∈ changed → s.effective .tankFill = false) ∧
      (e = .gauges → t.lbu.bands.t0.band ≠ .full ∧ s.tgu.gauges.t0.quality ≠ .unknown) ∧
      (∀ c, e = .conf c .applying → False))

/-- CLEAR_FILL_FAULT: in FAULTED the valve enters CLOSED with cause CLEARED, its timers kept, the FILL_FAULT cause is
handed to the PPU to be withdrawn, and the reply is OK; in any other state the reply is REFUSED(STATE) and nothing
else changes (R59). -/
def Obligations.ClearFillFaultCompletes : Prop :=
  ∀ (dt : Micros) (tag : Byte) (s : State), LinkFree s →
    (s.lbu.valve.state = .faulted →
      ∃ u, exec (.clearFillFault dt tag) s = .next u.finish ∧
        Serves .lbu (s.now + dt) 0x1A#8 tag (some [0#8]) s u ∧ u.lbu.bands = s.lbu.bands ∧
        u.lbu.valve = { s.lbu.valve with state := .closed, cause := some .cleared, do6 := false } ∧
        (Block.ppu, Event.alarms [.withdraw .fillFault]) ∈ u.agenda) ∧
    (s.lbu.valve.state ≠ .faulted →
      exec (.clearFillFault dt tag) s = .next { s with
        now := s.now + dt, agenda := [], port := s.port.serve
        lnk := { s.lnk with service := some ⟨0x1A#8, tag, some (replyFrame 0x1A#8 tag [2#8, 1#8])⟩ } })

/-! ## Drives -/

/-- CONFIRM_TIMER_EXPIRY with the retry unspent (a shift, or MAIN's unshift) puts the solenoid off for 500 ms in phase
OFF, the retry spent and the slot kept. With the retry spent, or in AUX's unshift, the drive is FAULTED(NO_CONFIRM): a
MAIN that was SHIFTING drives back to road with DO1 and keeps the slot, any other has its outputs off and the slot
freed or lent on. RETRY_OFF_EXPIRY drives the solenoid again in phase DRIVING and starts the CONFIRM timer afresh. A
timer started while the supply is not NORMAL starts suspended (R72, R73, R75, R78, R79, R88; an expiry taken late acts
at the time it is taken, log entry 2). -/
def Obligations.ConfirmAndRetryOffExpiriesComplete : Prop :=
  ∀ (d : Drive) (s : State) (due : Micros), SlotLent s →
    let time := max s.now due
    let r := s.deu.drives.get d
    let starts (duration : Micros) : Timer :=
      if s.pfu.supply = .normal then .running (time + duration) else .suspended duration
    let outputs (u : State) (on : Bool) : Prop :=
      (d = .main → u.deu.do0 = (on && r.state = .shifting) ∧ u.deu.do1 = (on && r.state = .releasing)) ∧
        (d = .aux → u.deu.do2 = (on && r.state = .shifting))
    (r.state = .shifting ∨ r.state = .releasing) → r.seq = .running due →
    (r.seqPurpose = some .confirm →
      ∃ u, exec (.confirmTimerExpiry d) s = .next u.finish ∧ Acts .deu time s u ∧
        (if r.retryUsed = false ∧ (r.state = .shifting ∨ d = .main) then
          (u.deu.drives.get d).state = r.state ∧ (u.deu.drives.get d).phase = .off ∧
          (u.deu.drives.get d).retryUsed = true ∧ (u.deu.drives.get d).seqPurpose = some .retryOff ∧
          (u.deu.drives.get d).seq = starts 500000 ∧ u.deu.holder = some d ∧ outputs u false
        else
          (u.deu.drives.get d).state = .faulted ∧ (u.deu.drives.get d).fault = some .noConfirm ∧
          (u.deu.drives.get d).cause = some (.fault .noConfirm) ∧
          (if r.state = .shifting ∧ d = .main then
            (u.deu.drives.get d).phase = .restore ∧ (u.deu.drives.get d).seqPurpose = some .restore ∧
            (u.deu.drives.get d).seq = starts (s.confirmTime .main) ∧ u.deu.holder = some .main ∧
            u.deu.do0 = false ∧ u.deu.do1 = true
          else
            (u.deu.drives.get d).phase = .none ∧ (u.deu.drives.get d).seq = .stopped ∧
            u.deu.holder ≠ some d ∧ outputs u false))) ∧
    (r.seqPurpose = some .retryOff →
      ∃ u, exec (.retryOffExpiry d) s = .next u.finish ∧ Acts .deu time s u ∧
        (u.deu.drives.get d).state = r.state ∧ (u.deu.drives.get d).phase = .driving ∧
        (u.deu.drives.get d).retryUsed = r.retryUsed ∧ (u.deu.drives.get d).seqPurpose = some .confirm ∧
        (u.deu.drives.get d).seq = starts (s.confirmTime d) ∧ u.deu.holder = some d ∧ outputs u true)

/-- PERMISSIVE_TIMER_EXPIRY in PREPARING: the drive enters DISENGAGED with cause PERMISSIVE_TIMEOUT, its timer stopped,
no longer a member of the waiting list, without a fault. RESTORE_TIMER_EXPIRY ends MAIN's road restore: DO1 off,
phase NONE, the slot free or lent to AUX, and MAIN still FAULTED. IDLE_TIMER_EXPIRY in IDLE_WAIT faults the drive with
NO_IDLE: the release is no longer pending, the drive leaves the waiting list, and a posted DRIVE_RELEASE stays posted
(R71, R75, R77, R87; an expiry taken late acts at the time it is taken, log entry 2). -/
def Obligations.PermissiveRestoreAndIdleExpiriesComplete : Prop :=
  ∀ (s : State) (due : Micros), SlotLent s → deuOutputs s.deu = s.deu →
    (∀ d, (s.deu.drives.get d).state = .preparing →
      (s.deu.drives.get d).seqPurpose = some .permissive → (s.deu.drives.get d).seq = .running due →
      ∃ u, exec (.permissiveTimerExpiry d) s = .next u.finish ∧ Acts .deu (max s.now due) s u ∧
        (u.deu.drives.get d).state = .disengaged ∧ (u.deu.drives.get d).cause = some .permissiveTimeout ∧
        (u.deu.drives.get d).fault = none ∧ (u.deu.drives.get d).seq = .stopped ∧ d ∉ u.deu.waiting) ∧
    (s.deu.drives.main.state = .faulted → s.deu.drives.main.phase = .restore →
      s.deu.drives.main.seqPurpose = some .restore → s.deu.drives.main.seq = .running due →
      ∃ u, exec .restoreTimerExpiry s = .next u.finish ∧ Acts .deu (max s.now due) s u ∧
        u.deu.drives.main.state = .faulted ∧ u.deu.drives.main.fault = s.deu.drives.main.fault ∧
        u.deu.drives.main.phase = .none ∧ u.deu.drives.main.seq = .stopped ∧ u.deu.do1 = false ∧
        u.deu.holder ≠ some .main) ∧
    (∀ d, (s.deu.drives.get d).pendingRelease = .idleWait →
      (s.deu.drives.get d).seqPurpose = some .idle → (s.deu.drives.get d).seq = .running due →
      ∃ u, exec (.idleTimerExpiry d) s = .next u.finish ∧ Acts .deu (max s.now due) s u ∧
        (u.deu.drives.get d).state = .faulted ∧ (u.deu.drives.get d).fault = some .noIdle ∧
        (u.deu.drives.get d).cause = some (.fault .noIdle) ∧
        (u.deu.drives.get d).pendingRelease = .none ∧ d ∉ u.deu.waiting ∧
        (u.deu.drives.get d).seq = .stopped ∧ (u.deu.drives.get d).position = .stopped ∧
        (u.deu.drives.get d).slip = .stopped ∧ (u.deu.drives.get d).stall = .stopped ∧
        (u.deu.drives.get d).releaseCut = (s.deu.drives.get d).releaseCut ∧
        (d = .aux → (s.deu.drives.get d).state.turning = true → u.deu.do2 = true))

/-- POSITION_TIMER_EXPIRY, SLIP_TIMER_EXPIRY and STALL_TIMER_EXPIRY of a drive that turns its pump fault it with
POSITION_LOST, SLIP and SLIP: every timer of the drive is stopped, it leaves the waiting list with no release
pending, AUX keeps its clutch, DRIVE_FAULT is handed to the PPU and a DRIVE_FAULT record to the recorder (R82, R85,
R86, R87; an expiry taken late acts at the time it is taken, log entry 2). -/
def Obligations.MonitorExpiriesFaultTheDrive : Prop :=
  ∀ (d : Drive) (s : State) (due : Micros) (c : Instr) (k : FaultKind), SlotLent s →
    deuOutputs s.deu = s.deu → (s.deu.drives.get d).state.turning = true →
    (c = .positionTimerExpiry d ∧ k = .positionLost ∧ (s.deu.drives.get d).position = .running due ∨
     c = .slipTimerExpiry d ∧ k = .slip ∧ (s.deu.drives.get d).slip = .running due ∨
     c = .stallTimerExpiry d ∧ k = .slip ∧ (s.deu.drives.get d).stall = .running due) →
    ∃ u, exec c s = .next u.finish ∧ Acts .deu (max s.now due) s u ∧
      (u.deu.drives.get d).state = .faulted ∧ (u.deu.drives.get d).fault = some k ∧
      (u.deu.drives.get d).cause = some (.fault k) ∧ (u.deu.drives.get d).pendingRelease = .none ∧
      (u.deu.drives.get d).seq = .stopped ∧ (u.deu.drives.get d).position = .stopped ∧
      (u.deu.drives.get d).slip = .stopped ∧ (u.deu.drives.get d).stall = .stopped ∧
      (u.deu.drives.get d).overspeed = .stopped ∧ d ∉ u.deu.waiting ∧
      (u.deu.drives.get d).releaseCut = (s.deu.drives.get d).releaseCut ∧
      (d = .aux → u.deu.do2 = true) ∧
      (∃ ops bodies, (Block.ppu, Event.alarms ops) ∈ u.agenda ∧ .post (.driveFault d) ∈ ops ∧
        (Block.drc, Event.records bodies) ∈ u.agenda ∧
        .driveFault d k (s.deu.drives.get d).state (s.positionCode d) ∈ bodies)

/-- OVERSPEED_TIMER_EXPIRY with the overspeed not yet posted hands ROLL_OVERSPEED to the cut demand set and, while AUX
stays ROLLING, to the alarm cause set; where a pending release gets the slot in the same event AUX is RELEASING, and
the cause goes as withdrawn, the post not handed over (R90; log entry 46). With no release pending, AUX keeps its
record but for the stopped timer and the flag, and starts no fault (R84; an expiry taken late acts at the time it is
taken, log entry 2). -/
def Obligations.OverspeedExpiryPosts : Prop :=
  ∀ (s : State) (due : Micros), SlotLent s → s.deu.drives.aux.overspeed = .running due →
    s.deu.drives.aux.state = .rolling → s.deu.drives.aux.overspeedPosted = false →
    ∃ u cuts alarms, exec .overspeedTimerExpiry s = .next u.finish ∧ Acts .deu (max s.now due) s u ∧
      (Block.tau, Event.cuts cuts) ∈ u.agenda ∧ .post .rollOverspeed ∈ cuts ∧
      (Block.ppu, Event.alarms alarms) ∈ u.agenda ∧
      ((u.deu.drives.aux.state = .rolling ∧ u.deu.drives.aux.overspeedPosted = true ∧
          .post .rollOverspeed ∈ alarms) ∨
        (u.deu.drives.aux.state = .releasing ∧ u.deu.drives.aux.overspeedPosted = false ∧
          s.deu.drives.aux.pendingRelease ≠ .none ∧
          .withdraw .rollOverspeed ∈ alarms ∧ .post .rollOverspeed ∉ alarms)) ∧
      (s.deu.drives.aux.pendingRelease = .none →
        u.deu.drives.aux = { s.deu.drives.aux with overspeed := .stopped, overspeedPosted := true })

/-- ENGAGE_DRIVE: the tests of R70 in order, on the records as adoption leaves them when it falls due in this event;
on acceptance the drive is PREPARING, a member of the waiting list with its permissive timer started, or already
SHIFTING when the slot was granted in the same event (R70). That a drive byte above 1 is answered BAD_VALUE before
every other test is the model's reading of R168 and R190 (log entry 24, DEDUCED). -/
def Obligations.EngageDriveCompletes : Prop :=
  ∀ (dt : Micros) (tag : Byte) (b : Byte) (s : State), LinkFree s →
    (1 < b.toNat →
      exec (.engageDrive dt tag b) s = .next { s with
        now := s.now + dt, agenda := [], port := s.port.serve
        lnk := { s.lnk with service := some ⟨0x10#8, tag, some (replyFrame 0x10#8 tag [5#8])⟩ } }) ∧
    (∀ d, driveOf b = some d → SlotLent s →
      let w := adopt s { deu := s.deu }
      let status : List Byte :=
        if s.pfu.conf = .loading ∨ s.pfu.conf = .unconfigured then [6#8]
        else if s.pfu.conf = .applying then [8#8]
        else if w.deu.adopted = false then [8#8]
        else if (w.drive d).state ≠ .disengaged then [2#8, 1#8]
        else match s.lku.effect (startGuard d) with
          | some n => [2#8, 2#8, byte n]
          | none => [1#8]
      ∃ u, exec (.engageDrive dt tag b) s = .next u.finish ∧
        Serves .deu (s.now + dt) 0x10#8 tag (some status) s u ∧
        (status = [1#8] →
          ((u.deu.drives.get d).state = .preparing ∧ (u.deu.drives.get d).cause = some .requested ∧
            (u.deu.drives.get d).seqPurpose = some .permissive ∧
            (u.deu.drives.get d).seq = .running (s.now + dt + s.driveParams.permWaitS * 1000000) ∧
            d ∈ u.deu.waiting) ∨
          ((u.deu.drives.get d).state = .shifting ∧ (u.deu.drives.get d).cause = some .shiftStarted ∧
            u.deu.holder = some d ∧ d ∉ u.deu.waiting)))

/-- RELEASE_DRIVE: BUSY while adoption is pending, and otherwise by the drive's state as the table of R76 gives it: the
reply and what becomes of the drive (R76, R77, R80). That a drive byte above 1 is answered BAD_VALUE before every other
test is the model's reading of R168 and R190 (log entry 24, DEDUCED). -/
def Obligations.ReleaseDriveCompletes : Prop :=
  ∀ (dt : Micros) (tag : Byte) (b : Byte) (s : State), LinkFree s →
    (1 < b.toNat →
      exec (.releaseDrive dt tag b) s = .next { s with
        now := s.now + dt, agenda := [], port := s.port.serve
        lnk := { s.lnk with service := some ⟨0x11#8, tag, some (replyFrame 0x11#8 tag [5#8])⟩ } }) ∧
    (∀ d, driveOf b = some d → SlotLent s →
      let w := adopt s { deu := s.deu }
      let r := w.drive d
      let answers (status : List Byte) (u : State) : Prop :=
        exec (.releaseDrive dt tag b) s = .next u.finish ∧
          Serves .deu (s.now + dt) 0x11#8 tag (some status) s u
      let pends (u : State) : Prop :=
        (u.deu.drives.get d).releaseCut = true ∧
          ((u.deu.drives.get d).state = r.state ∧ (u.deu.drives.get d).cause = some .releasePending ∧
              (u.deu.drives.get d).pendingRelease ≠ .none ∧ d ∈ u.deu.waiting ∨
            (u.deu.drives.get d).state = .releasing ∧ s.atIdle = true ∧ u.deu.holder = some d)
      let releasing (u : State) : Prop :=
        (u.deu.drives.get d).state = .releasing ∧ (u.deu.drives.get d).cause = some .releaseStarted ∧
          (u.deu.drives.get d).releaseCut = true ∧ u.deu.holder = some d ∧
          (d = .main → u.deu.do0 = false ∧ u.deu.do1 = true) ∧ (d = .aux → u.deu.do2 = false)
      if w.deu.adopted = false then ∃ u, answers [8#8] u
      else match r.state with
        | .disengaged => ∃ u, answers [2#8, 1#8] u
        | .releasing => ∃ u, answers [2#8, 1#8] u
        | .preparing => ∃ u, answers [0#8] u ∧ (u.deu.drives.get d).state = .disengaged ∧
            (u.deu.drives.get d).cause = some .cancelled ∧ (u.deu.drives.get d).seq = .stopped ∧
            d ∉ u.deu.waiting
        | .shifting => ∃ u, answers [1#8] u ∧ releasing u
        | .engaged | .rolling =>
          if r.pendingRelease ≠ .none then ∃ u, answers [2#8, 1#8] u else ∃ u, answers [1#8] u ∧ pends u
        | .faulted =>
          if r.pendingRelease ≠ .none then ∃ u, answers [2#8, 1#8] u
          else if r.phase = .restore then ∃ u, answers [1#8] u ∧ releasing u
          else if s.roadPosition d = true ∧ (d = .main ∨ w.deu.do2 = false) then
            ∃ u, answers [0#8] u ∧ (u.deu.drives.get d).state = .disengaged ∧
              (u.deu.drives.get d).cause = some .released ∧ (u.deu.drives.get d).fault = none ∧
              (u.deu.drives.get d).releaseCut = false
          else ∃ u, answers [1#8] u ∧ pends u ∧ (d = .aux → u.deu.do2 = false))

/-- The shift slot is granted only while it is free and the supply NORMAL: a PREPARING drive enters SHIFTING only with
every permissive holding and no start-guard effective, and a drive enters RELEASING by a grant only in SLOT_WAIT
(R67, R71, R88, R122). -/
def Obligations.SlotIsGrantedOnlyToAReadyDrive : Prop :=
  ∀ (s : State) (w : DeuWork) (d : Drive),
    let w' := offer s w.deu.waiting w
    ((w'.drive d).state = .shifting → (w.drive d).state ≠ .shifting →
      (w.drive d).state = .preparing ∧ w.deu.holder = none ∧ w'.deu.holder = some d ∧
      s.pfu.supply = .normal ∧ s.effective (startGuard d) = false ∧
      (d = .main → s.level .parkBrake = true) ∧ s.level .transNeutral = true ∧
      s.isu.pub.roadStill = true ∧ s.engineAtMost s.driveParams.shiftMaxRpm = true) ∧
    ((w'.drive d).state = .releasing → (w.drive d).state ≠ .releasing →
      (w.drive d).pendingRelease = .slotWait ∧ w.deu.holder = none ∧ w'.deu.holder = some d ∧
      s.pfu.supply = .normal)

/-- Adoption, at the first event after the load has ended and a scan has been published: MAIN from the split position,
AUX from its feedback (R89). An ISU publication that carries the position a drive waits for confirms its shift, with an
ENGAGE record, or its return, with a RELEASE record and its demands withdrawn; one that does not leaves the drive as it
was, with the slot (R72 to R74, R78, R79). A MAIN in ENGAGED is FAULTED(MOTION) at a publication with the ROAD input
moving, or with ROAD_STILL false while motion armed is yes, and otherwise stays, armed once ROAD_STILL is true (R83).
Split position ROAD ends MAIN's road restore (R75). An AUX with no release pending moves between ENGAGED and ROLLING
with ROAD_STILL, and a posted ROLL_OVERSPEED ends with ROLLING (R65, R84). -/
def Obligations.AdoptionFollowsThePositions : Prop :=
  (∀ (s : State) (w : DeuWork), s.deu.adopted = false → s.pfu.conf ≠ .loading → s.isu.scanned = true →
    let w' := adopt s w
    w'.deu.adopted = true ∧
    (s.isu.pub.split = .pump → (w'.drive .main).state = .engaged ∧
      (w'.drive .main).cause = some .adopted ∧ (w'.drive .main).motionArmed = false) ∧
    (s.isu.pub.split = .road → (w'.drive .main).state = .disengaged ∧
      (w'.drive .main).cause = some .adopted) ∧
    (s.isu.pub.split = .between ∨ s.isu.pub.split = .conflict →
      (w'.drive .main).state = .faulted ∧ (w'.drive .main).fault = some .positionUnknown) ∧
    (s.level .auxPtoFeedback = true →
      (w'.drive .aux).state = .faulted ∧ (w'.drive .aux).fault = some .adoptedUnpowered) ∧
    (s.level .auxPtoFeedback = false →
      (w'.drive .aux).state = .disengaged ∧ (w'.drive .aux).cause = some .adopted)) ∧
  ∀ s : State, SlotLent s →
    let t := s.deuEvent .inputs
    let still := s.isu.pub.roadStill
    let recorded (r : RecordBody) : Prop := ∃ bodies, (Block.drc, Event.records bodies) ∈ t.agenda ∧ r ∈ bodies
    let alarmed (o : SetOp AlarmCause) : Prop := ∃ ops, (Block.ppu, Event.alarms ops) ∈ t.agenda ∧ o ∈ ops
    (∀ d, let r := s.deu.drives.get d
      let r' := t.deu.drives.get d
      (r.state = .shifting → s.pumpPosition d = true →
        r'.state = (if d = .aux ∧ still = false then .rolling else .engaged) ∧ r'.cause = some .confirmed ∧
        r'.phase = .none ∧ r'.seq = .stopped ∧ (d = .main → r'.motionArmed = true) ∧ t.deu.holder ≠ some d ∧
        (d = .main → t.deu.do0 = false) ∧ (d = .aux → t.deu.do2 = true) ∧
        recorded (.engage d (s.pulse .engine).speed (s.now - r.accepted))) ∧
      (r.state = .releasing → s.roadPosition d = true →
        r'.state = .disengaged ∧ r'.cause = some .released ∧ r'.fault = none ∧ r'.phase = .none ∧
        r'.seq = .stopped ∧ r'.releaseCut = false ∧ t.deu.holder ≠ some d ∧
        (d = .main → t.deu.do1 = false) ∧ (d = .aux → t.deu.do2 = false) ∧
        recorded (.release d false) ∧ alarmed (.withdraw (.driveFault d)) ∧
        (r.releaseCut = true →
          ∃ cuts, (Block.tau, Event.cuts cuts) ∈ t.agenda ∧ .withdraw (.driveRelease d) ∈ cuts)) ∧
      (r.state = .shifting ∧ s.pumpPosition d = false ∨ r.state = .releasing ∧ s.roadPosition d = false →
        r' = r ∧ t.deu.holder = some d)) ∧
    (let m := s.deu.drives.main
     let m' := t.deu.drives.main
     let moves : Prop := (s.pulse .road).state ≠ .stopped ∨ m.motionArmed = true ∧ still = false
     (m.state = .engaged → moves →
       m'.state = .faulted ∧ m'.fault = some .motion ∧ m'.cause = some (.fault .motion) ∧
       m'.pendingRelease = .none ∧ m'.seq = .stopped ∧ m'.position = .stopped ∧ m'.slip = .stopped ∧
       m'.stall = .stopped ∧ m'.releaseCut = m.releaseCut ∧ .main ∉ t.deu.waiting ∧
       alarmed (.post (.driveFault .main)) ∧
       recorded (.driveFault .main .motion .engaged (s.positionCode .main))) ∧
     (m.state = .engaged → ¬ moves → m.pendingRelease = .none →
       m'.state = .engaged ∧ m'.cause = m.cause ∧ m'.fault = m.fault ∧
       m'.motionArmed = (m.motionArmed || still)) ∧
     (m.state = .faulted → m.phase = .restore → s.isu.pub.split = .road →
       m'.state = .faulted ∧ m'.fault = m.fault ∧ m'.phase = .none ∧ m'.seq = .stopped ∧
       t.deu.holder ≠ some .main ∧ t.deu.do1 = false)) ∧
    (let a := s.deu.drives.aux
     let a' := t.deu.drives.aux
     a.state.turning = true → a.pendingRelease = .none →
       a'.state = (if still then .engaged else .rolling) ∧
       a'.cause = (if a'.state = a.state then a.cause else if still then some .vehicleStill else some .vehicleMoving) ∧
       t.deu.do2 = true ∧
       (a.state = .rolling → still = true → a'.overspeed = .stopped ∧ a'.overspeedPosted = false ∧
         (a.overspeedPosted = true → alarmed (.withdraw .rollOverspeed))))

/-! ## Pump protection and the alarm set -/

/-- PERSIST_TIMER_EXPIRY: in PENDING the watch is TRIPPED with the known value as its peak; its alarm cause stands in the
set, a watch other than OVERHEAT posts its cut, and a PROTECTION record is handed over. In RECOVERING it is CLEAR with
everything withdrawn. The other watches stand as before, and the outputs follow (R100, R102, R106; an expiry taken late
acts at the time it is taken, log entry 2). -/
def Obligations.PersistExpiryTripsOrClears : Prop :=
  ∀ (d : Drive) (k : Threshold) (s : State) (due : Micros),
    let w := thresholdWatch k
    let r := (s.ppu.watches.get d).get w
    r.persist = .running due →
    (r.state = .pending →
      ∃ u, exec (.persistTimerExpiry d k) s = .next u.finish ∧ Acts .ppu (max s.now due) s u ∧
        u.ppu.watches = s.ppu.watches.set d ((s.ppu.watches.get d).set w
          { r with
            state := .tripped, persist := .stopped, peak := s.knownValue (watchRole d w)
            cutPosted := decide (k ≠ .overheat) }) ∧
        (∃ a ∈ u.ppu.alarms, a.cause = .watch d w) ∧
        (∀ a ∈ u.ppu.alarms, a ∈ s.ppu.alarms ∨ a = ⟨.watch d w, false⟩) ∧
        (∀ a ∈ s.ppu.alarms, a ∈ u.ppu.alarms) ∧
        (d = .main → k = .overheat → u.ppu.do8 = true) ∧
        (k ≠ .overheat → (Block.tau, Event.cuts [.post (.watch d w)]) ∈ u.agenda) ∧
        (Block.drc, Event.records [.protection d w true (s.knownValue (watchRole d w)) .tripped none]) ∈ u.agenda) ∧
    (r.state = .recovering →
      ∃ u, exec (.persistTimerExpiry d k) s = .next u.finish ∧ Acts .ppu (max s.now due) s u ∧
        u.ppu.watches = s.ppu.watches.set d ((s.ppu.watches.get d).set w
          ⟨.clear, r.health, .stopped, none, .stopped, false, false⟩) ∧
        (∀ a, a ∈ u.ppu.alarms ↔ a ∈ s.ppu.alarms ∧ a.cause ≠ .watch d w) ∧
        (d = .main → k = .overheat → u.ppu.do8 = false) ∧
        (r.cutPosted = true → (Block.tau, Event.cuts [.withdraw (.watch d w)]) ∈ u.agenda) ∧
        (Block.drc, Event.records [.protection d w false r.peak .cleared none]) ∈ u.agenda)

/-- DRY_TIMER_EXPIRY sets dry elapsed, and posts the cut at once when the watch is TRIPPED with none posted and the
intake pressure known and at or below 0. DRY_RUN_CLEAR_EXPIRY in RECOVERING takes the watch to CLEAR with everything
withdrawn (R104). An ISU or gauge publication that finds the drive not turning its pump, or the part not CONFIGURED,
leaves the pump's OVERPRESSURE, CAVITATION and DRY_RUN watches as they were but for their input health (R99). An expiry
taken late acts at the time it is taken (log entry 2). -/
def Obligations.DryRunExpiriesComplete : Prop :=
  ∀ (d : Drive) (s : State) (due : Micros),
    let r := (s.ppu.watches.get d).dryRun
    (r.dry = .running due →
      ∃ u, exec (.dryTimerExpiry d) s = .next u.finish ∧ Acts .ppu (max s.now due) s u ∧
        u.ppu.alarms = s.ppu.alarms ∧
        (let cut : Bool := r.state = .tripped && !r.cutPosted &&
            (match s.knownValue (.intakePressure d) with
              | some v => decide (v ≤ 0)
              | none => false)
         u.ppu.watches = s.ppu.watches.set d ((s.ppu.watches.get d).set .dryRun
            { r with dry := .stopped, dryElapsed := true, cutPosted := r.cutPosted || cut }) ∧
          (cut = true → (Block.tau, Event.cuts [.post (.watch d .dryRun)]) ∈ u.agenda))) ∧
    (r.persist = .running due → r.state = .recovering →
      ∃ u, exec (.dryRunClearExpiry d) s = .next u.finish ∧ Acts .ppu (max s.now due) s u ∧
        u.ppu.watches = s.ppu.watches.set d ((s.ppu.watches.get d).set .dryRun
          ⟨.clear, r.health, .stopped, none, .stopped, false, false⟩) ∧
        (∀ a, a ∈ u.ppu.alarms ↔ a ∈ s.ppu.alarms ∧ a.cause ≠ .watch d .dryRun) ∧
        (r.cutPosted = true → (Block.tau, Event.cuts [.withdraw (.watch d .dryRun)]) ∈ u.agenda)) ∧
    (s.turning d = false ∨ s.pfu.conf ≠ .configured → ∀ e k, e = .inputs ∨ e = .gauges → k ≠ .overheat →
      let now := ((s.ppuEvent e).ppu.watches.get d).get k
      now = { (s.ppu.watches.get d).get k with health := now.health })

/-- SILENCE_ALARM silences every member of the alarm cause set, stops the horn, leaves every watch, cut and relief dump
as it is, and is answered OK. The posts and withdrawals of one event give a set with every cause posted, and of the
former members those not withdrawn, each keeping its flag; a cause newly posted is unsilenced (R107, R108, R109). -/
def Obligations.SilenceAlarmCompletes : Prop :=
  (∀ (dt : Micros) (tag : Byte) (s : State), LinkFree s → ppuOutputs s.ppu = s.ppu →
    ∃ u, exec (.silenceAlarm dt tag) s = .next u.finish ∧
      Serves .ppu (s.now + dt) 0x19#8 tag (some [0#8]) s u ∧
      u.ppu = { s.ppu with
        alarms := s.ppu.alarms.map fun a => { a with silenced := true }, do9 := false }) ∧
  (∀ (alarms : List Alarm) (ops : List (SetOp AlarmCause)), (alarms.map (·.cause)).Nodup →
    let after := alarmsAfter alarms (withdrawalsFirst ops)
    (after.map (·.cause)).Nodup ∧
    ∀ a, a ∈ after ↔
      (a ∈ alarms ∧ .withdraw a.cause ∉ ops) ∨
      (.post a.cause ∈ ops ∧ a.silenced = false ∧
        ((∀ b ∈ alarms, b.cause ≠ a.cause) ∨ .withdraw a.cause ∈ ops)))

/-! ## Lockouts -/

/-- A term whose source is UNKNOWN counts as true in either form, and any other by its truth and its negate; an entry is
ACTIVE when every term counts; a HARD entry is effective while ACTIVE without override, a CONFIRM entry while besides
unconfirmed, an ADVISORY entry never; a target's effect names the lowest-numbered effective entry with that target; and
at the end of every LKU event DO3 is asserted exactly while a built-in is active, a ROAD_GEAR entry is effective, or an
AUX_ROLL entry is with AUX ENGAGED (R115, R119, R121). At the end of every LKU event that brings an ISU, DEU or PPU
publication DO7 is lit exactly while MAIN is ENGAGED with the brake set and the transmission in neutral, or AUX is
ENGAGED or ROLLING with no DRIVE_FAULT in the alarm cause set, and every other event leaves it as it was (R116). A
WATCH_TRIPPED of a threshold watch is false with input health NONE and UNKNOWN with UNKNOWN (R118). At every ISU
publication, DEU publication and change of the configuration state MAIN_GEAR is active exactly while MAIN is other than
DISENGAGED or the split position other than ROAD, so that DO3 is then asserted, and AUX_GEAR exactly while AUX is
PREPARING, SHIFTING, RELEASING or FAULTED, or ENGAGED without select; every other event leaves both, and START_HOLD ends
at the DEU publication of adoption complete alone (R114, R115). -/
def Obligations.LockoutsFollowTheirTerms : Prop :=
  (∀ (s : State) (e : LockoutEntry),
    (entryActive s e = true ↔
      ∀ t ∈ e.terms, termTruth s t.kind = none ∨ termTruth s t.kind = some (!t.negate))) ∧
  (∀ m active overridden confirmed, formEffective m active overridden confirmed = true ↔
    active = true ∧ overridden = false ∧ (m = .hard ∨ m = .confirm ∧ confirmed = false)) ∧
  (∀ (l : Lku) (t : Target) (n : Nat), l.table.length = 16 → l.records.length = 16 →
    let acts (k : Nat) : Prop :=
      (l.entry k).inUse = true ∧ (l.entry k).target = t ∧ (l.entryRec k).effective = true
    (l.effect t = some n ↔ n < 16 ∧ acts n ∧ ∀ k < n, ¬ acts k) ∧
    (l.effect t = none ↔ ∀ k < 16, ¬ acts k)) ∧
  (∀ (s : State) (w : LkuWork), w.lku.table.length = 16 → w.lku.records.length = 16 →
    let l := (s.lkuCommit w).lku
    (∀ n < 16, (l.entryRec n).effective = ((w.lku.entry n).inUse &&
      formEffective (w.lku.entry n).mode (w.lku.entryRec n).active (w.lku.overridden n)
        (w.lku.entryRec n).confirmed)) ∧
    (l.do3 = true ↔ l.mainGear = true ∨ l.auxGear = true ∨ l.startHold = true ∨
      ∃ n < 16, (l.entry n).inUse = true ∧ (l.entryRec n).effective = true ∧
        ((l.entry n).target = .roadGear ∨
          (l.entry n).target = .auxRoll ∧ s.deu.drives.aux.state = .engaged))) ∧
  (∀ (s : State) (e : Event),
    if e = .inputs ∨ e = .drives ∨ e = .watches then
      ((s.lkuEvent e).lku.do7 = true ↔
        (s.deu.drives.main.state = .engaged ∧ s.level .parkBrake = true ∧ s.level .transNeutral = true) ∨
        ((s.deu.drives.aux.state = .engaged ∨ s.deu.drives.aux.state = .rolling) ∧
          ∀ a ∈ s.ppu.alarms, ∀ d, a.cause ≠ .driveFault d))
    else (s.lkuEvent e).lku.do7 = s.lku.do7) ∧
  (∀ (s : State) (d : Drive) (k : Watch),
    let r := (s.ppu.watches.get d).get k
    let tripped : Bool := r.state = .tripped || r.state = .recovering
    termTruth s (.watchTripped d k) =
      if k ≠ .dryRun ∧ r.health = .unknown then none
      else if k ≠ .dryRun ∧ r.health = .none then some false else some tripped) ∧
  (∀ (s : State) (e : Event),
    let l := (s.lkuEvent e).lku
    let refreshes : Prop := e = .inputs ∨ e = .drives ∨ ∃ before after, e = .conf before after
    let mainOut : Prop := s.deu.drives.main.state ≠ .disengaged ∨ s.isu.pub.split ≠ .road
    let auxOut : Prop :=
      s.deu.drives.aux.state = .preparing ∨ s.deu.drives.aux.state = .shifting ∨
        s.deu.drives.aux.state = .releasing ∨ s.deu.drives.aux.state = .faulted ∨
        s.deu.drives.aux.state = .engaged ∧ s.level .pumpRollSelect = false
    (refreshes → (l.mainGear = true ↔ mainOut) ∧ (l.auxGear = true ↔ auxOut) ∧ (mainOut ∨ auxOut → l.do3 = true)) ∧
    (¬ refreshes → l.mainGear = s.lku.mainGear ∧ l.auxGear = s.lku.auxGear) ∧
    (e = .drives → (l.startHold = true ↔ s.lku.startHold = true ∧ s.deu.adopted = false)) ∧
    (e ≠ .drives → l.startHold = s.lku.startHold) ∧
    (e = .drives → s.lku.startHold = true → s.deu.adopted = false → l.do3 = true))

/-- OVERRIDE_TIMER_EXPIRY and CANCEL_OVERRIDE end the override of a slot: it leaves the list, the others keep their
order, the entry is evaluated afresh and is effective again at once where ACTIVE and, for a CONFIRM entry, unconfirmed,
and an OVERRIDE end record is handed over. A CANCEL_OVERRIDE of a slot above 15 is answered BAD_VALUE and of a slot
without override REFUSED(STATE), and neither changes the list (R127, R128, R129; an expiry taken late acts at the time
it is taken, log entry 2). -/
def Obligations.OverridesEnd : Prop :=
  ∀ (n : Nat) (s : State), s.lku.table.length = 16 → s.lku.records.length = 16 →
    let l := s.lku
    let ended (reason : EndReason) (u : State) : Prop :=
      u.lku.overrides = l.overrides.filter (fun o => o.slot != n) ∧ u.lku.table = l.table ∧
      (let e := l.entry n
       let active : Bool := if e.inUse then entryActive s e else (l.entryRec n).active
       let confirmed : Bool := if e.inUse then (l.entryRec n).confirmed && active else (l.entryRec n).confirmed
       u.lku.entryRec n = ⟨active, e.inUse && formEffective e.mode active false confirmed, confirmed⟩ ∧
       ∃ rest, (Block.drc, Event.records (.overrideEnd n e.target reason active :: rest)) ∈ u.agenda)
    (∀ due, ∀ h : n < 16, l.overrideTimer n = .running due →
      ∃ u, exec (.overrideTimerExpiry ⟨n, h⟩) s = .next u.finish ∧ Acts .lku (max s.now due) s u ∧
        ended .expired u) ∧
    (∀ dt tag, LinkFree s → n < 256 →
      (15 < n → ∃ u, exec (.cancelOverride dt tag (byte n)) s = .next u.finish ∧
        Serves .lku (s.now + dt) 0x22#8 tag (some [5#8]) s u ∧ u.lku.overrides = l.overrides) ∧
      (n ≤ 15 → l.overridden n = false →
        ∃ u, exec (.cancelOverride dt tag (byte n)) s = .next u.finish ∧
          Serves .lku (s.now + dt) 0x22#8 tag (some [2#8, 1#8]) s u ∧ u.lku.overrides = l.overrides) ∧
      (n ≤ 15 → l.overridden n = true →
        ∃ u, exec (.cancelOverride dt tag (byte n)) s = .next u.finish ∧
          Serves .lku (s.now + dt) 0x22#8 tag (some [0#8]) s u ∧ ended .cancelled u))

/-- CONFIRM_LOCKOUT and OVERRIDE_LOCKOUT: the tests of R124 and R126 in order give the reply; a confirmation sets
confirmed on the one entry, and an override joins the list at its tail with its timer started, or restarts the timer it
has in its place (R124, R126). -/
def Obligations.ConfirmAndOverrideLockoutComplete : Prop :=
  ∀ (dt : Micros) (tag slot : Byte) (s : State), LinkFree s →
    s.lku.table.length = 16 → s.lku.records.length = 16 →
    let n := slot.toNat
    let e := s.lku.entry n
    let r := s.lku.entryRec n
    let outside : Option (List Byte) :=
      if s.pfu.conf = .loading ∨ s.pfu.conf = .unconfigured then some [6#8]
      else if s.pfu.conf = .applying then some [8#8] else none
    (let status : List Byte :=
        if 15 < n then [5#8]
        else match outside with
          | some x => x
          | none =>
            if e.inUse = false ∨ e.mode ≠ .confirm then [5#8]
            else if r.active = false then [2#8, 4#8] else [0#8]
     ∃ u, exec (.confirmLockout dt tag slot) s = .next u.finish ∧
      Serves .lku (s.now + dt) 0x20#8 tag (some status) s u ∧ u.lku.overrides = s.lku.overrides ∧
      u.lku.table = s.lku.table ∧
      ∀ k < 16, (u.lku.entryRec k).active = (s.lku.entryRec k).active ∧
        (u.lku.entryRec k).confirmed = ((s.lku.entryRec k).confirmed || (status = [0#8] && k = n))) ∧
    (∀ seconds : BitVec 16,
      let status : List Byte :=
        if 15 < n ∨ seconds.toNat < 1 ∨ 600 < seconds.toNat then [5#8]
        else if s.level .serviceKey = false then [7#8]
        else match outside with
          | some x => x
          | none =>
            if e.inUse = false then [5#8]
            else if e.overridable = false then [2#8, 5#8]
            else if s.lku.overridden n then [0#8]
            else if 4 ≤ s.lku.overrides.length then [2#8, 6#8] else [0#8]
      let timer : Timer := .running (s.now + dt + seconds.toNat * 1000000)
      ∃ u, exec (.overrideLockout dt tag slot seconds) s = .next u.finish ∧
        Serves .lku (s.now + dt) 0x21#8 tag (some status) s u ∧ u.lku.table = s.lku.table ∧
        (status ≠ [0#8] → u.lku.overrides = s.lku.overrides) ∧
        (status = [0#8] →
          (u.lku.overrides = if s.lku.overridden n then
              s.lku.overrides.map (fun o => if o.slot = n then { o with timer := timer } else o)
            else s.lku.overrides ++ [⟨n, timer⟩]) ∧
          (u.lku.entryRec n).effective = false ∧
          (Block.drc, Event.records
            [.overrideStart n e.target seconds.toNat r.active (s.lku.overridden n)]) ∈ u.agenda))

/-! ## Throttle authority -/

/-- TRANSFER_TIMER_EXPIRY: TO_PANEL returns to CAB with cause NOT_IDLE, TO_CAB ends in CAB with cause FORCED.
RECLAIM_TIMER_EXPIRY in PANEL with the drive condition holding moves to TO_CAB with cause RECLAIM_FORCED, or on to CAB
where the panel throttle and the engine are at idle. RECLAIM_AUTHORITY is answered REFUSED(STATE) in CAB and otherwise
OK, and leaves TO_PANEL and PANEL. The cut demand set is as before, and the outputs follow (R140 to R143; that the
request makes the completion test is the model's choice, log entry 40; an expiry taken late acts at the time it is
taken, log entry 2). -/
def Obligations.AuthorityTimersAndReclaimComplete : Prop :=
  ∀ s : State,
    let cab (c : AuthCause) : Tau := { s.tau with
      state := .cab, cause := some c, transferPurpose := none, transfer := .stopped
      do4 := !s.tau.cuts.isEmpty, do5 := false }
    let leaves (time : Micros) (c : AuthCause) (t : Tau) : Prop :=
      t.cuts = s.tau.cuts ∧ t.resumeHold = false ∧ t.reclaimPending = false ∧ t.reclaim = .stopped ∧
      t.do5 = false ∧
      (if s.panelIdle && s.atIdle then t.state = .cab ∧ t.cause = some .returned ∧ t.transfer = .stopped
      else t.state = .toCab ∧ t.cause = some c ∧ t.transferPurpose = some .toCab ∧ t.do4 = true ∧
        t.transfer = .running (time + s.authorityParams.toCabS * 1000000))
    (∀ due, s.tau.transfer = .running due → s.tau.state = .toPanel ∨ s.tau.state = .toCab →
      ∃ u, exec .transferTimerExpiry s = .next u.finish ∧ Acts .tau (max s.now due) s u ∧
        u.tau = cab (if s.tau.state = .toPanel then .notIdle else .forced)) ∧
    (∀ due, s.tau.reclaim = .running due → s.tau.state = .panel → driveCondition s = true →
      ∃ u, exec .reclaimTimerExpiry s = .next u.finish ∧ Acts .tau (max s.now due) s u ∧
        leaves (max s.now due) .reclaimForced u.tau) ∧
    (∀ dt tag, LinkFree s → tauOutputs s.tau = s.tau →
      ∃ u, exec (.reclaimAuthority dt tag) s = .next u.finish ∧
        Serves .tau (s.now + dt) 0x18#8 tag (some (if s.tau.state = .cab then [2#8, 1#8] else [0#8])) s u ∧
        (s.tau.state = .cab → u.tau = s.tau) ∧
        (s.tau.state.towardPanel = true → driveCondition s = true → leaves (s.now + dt) .hostReclaim u.tau) ∧
        (s.tau.state = .toCab → (s.panelIdle && s.atIdle) = false → u.tau = s.tau))

/-- At the end of an ISU or DEU publication, of posts and withdrawals of cut demands, and of any LKU publication that
names PANEL_AUTHORITY, TO_PANEL and PANEL stand only with the drive condition holding; neither stands after such an LKU
publication with the lockout effective, after posts and withdrawals among which a DRIVE_RELEASE is newly posted, after
the reclaim timer's expiry or after RECLAIM_AUTHORITY; and the transfer timer's expiry leaves TO_PANEL for CAB; a panel request in CAB
is denied by the first test of R139 that fails and leaves CAB, and otherwise moves authority to TO_PANEL, or on to PANEL
where the panel throttle and the engine are at idle. The look at the drive condition in every event is the model's
reading (R138, R139, R141; log entry 17). -/
def Obligations.PanelAuthorityNeedsAnEngagedDrive : Prop :=
  ∀ s : State,
    (∀ e, (e = .inputs ∨ e = .drives ∨ (∃ ops, e = .cuts ops) ∨
        ∃ changed, e = .lockouts changed ∧ .panelAuthority ∈ changed) →
      (s.tauEvent e).tau.state.towardPanel = true → driveCondition s = true) ∧
    (s.effective .panelAuthority = true → ∀ changed, .panelAuthority ∈ changed →
      (s.tauEvent (.lockouts changed)).tau.state.towardPanel = false) ∧
    (∀ d ops, .post (.driveRelease d) ∈ ops → .driveRelease d ∉ s.tau.cuts →
      (s.tauEvent (.cuts ops)).tau.state.towardPanel = false) ∧
    (s.tauTakes (tauReclaimExpired s)).tau.state.towardPanel = false ∧ s.reclaim.tau.state.towardPanel = false ∧
    (s.tau.state = .toPanel → (s.tauTakes tauTransferExpired).tau.state = .cab) ∧
    (s.tau.state = .cab → s.rising .panelAuthReq = true →
      let denial : Option Nat :=
        if s.rising .cabAuthReq = true then some 0
        else if driveCondition s = false then some 1
        else if s.effective .panelAuthority = true then some 2
        else if s.tau.cuts ≠ [] then some 3 else none
      panelDenial s s.tau = denial ∧
      (denial ≠ none → (s.tauEvent .inputs).tau.state = .cab ∧ (s.tauEvent .inputs).tau.cuts = s.tau.cuts) ∧
      (denial = none →
        if s.panelIdle && s.atIdle then (s.tauEvent .inputs).tau.state = .panel
        else (s.tauEvent .inputs).tau.state = .toPanel ∧ (s.tauEvent .inputs).tau.do4 = true ∧
          (s.tauEvent .inputs).tau.do5 = false ∧
          (s.tauEvent .inputs).tau.transfer = .running (s.now + s.authorityParams.toPanelS * 1000000)))

/-! ## The duty recorder -/

/-- SYNC_TIMER_EXPIRY restarts the timer with 600 s and keeps the accumulators; with the changed flag clear it stages
nothing. HALF_PAGE_WRITE_END of the ring write in progress: read back equal, the number is spent, the head advances
and the oldest present number follows; different or NO_ANSWER the first time, the same bytes are asked for again;
different twice, the slot is skipped; NO_ANSWER twice, the recorder is FAILED. The profile and the inputs stand as
before (R153, R154, R157, R159). An outcome that comes again for the record after the other one, which the table of R157
does not give, is taken as a first time: the model's choice (log entry 65, DESIGN CHOICE). That the oldest present number becomes the greater of what it was and the spent number
less 1,919, and the spent number where none was present, is the model's reading (log entry 21, DEDUCED); an expiry taken
late acts at the time it is taken (log entry 2). -/
def Obligations.SyncExpiryAndSlotWriteComplete : Prop :=
  ∀ s : State, s.lnk.restart = none →
    (∀ due, s.drc.syncTimer = .running due → s.drc.state ≠ .failed →
      ∃ t, exec .syncTimerExpiry s = .next t ∧ InputsAndProfileKept s t ∧
        t.drc.syncTimer = .running (max s.now due + 600000000) ∧ t.drc.acc = s.drc.acc ∧
        t.drc.state = s.drc.state ∧ t.drc.nextSeq = s.drc.nextSeq ∧
        (s.drc.changed = false → s.drc.lostCount = 0 → t.drc.queue = s.drc.queue) ∧
        (s.drc.changed = true → s.drc.queue = [] → s.drc.write = none → s.drc.lostCount = 0 →
          ∃ r, t.drc.queue = [r] ∧ r.body = .sync .timer false)) ∧
    (∀ dt outcome slot bytes rw, s.port.busy = some (.drc, .slotWrite slot bytes) →
      s.drc.write = some rw → rw.sequence < lastSequence → s.drc.state = .running → s.drc.read = none →
      s.drc.head = some slot →
      ∃ t, exec (.halfPageWriteEnd dt outcome) s = .next t ∧ InputsAndProfileKept s t ∧
        t.now = s.now + dt ∧ t.drc.acc = s.drc.acc ∧
        (if outcome = .equal then
          t.drc.state = .running ∧ t.drc.head = some ((slot + 1) % 1920) ∧
          t.drc.nextSeq = some (rw.sequence + 1) ∧
          t.drc.oldest = some (max (s.drc.oldest.getD rw.sequence) (rw.sequence - 1919)) ∧
          (s.drc.lostCount = 0 →
            t.drc.queue = if rw.fromQueue then s.drc.queue.drop 1 else s.drc.queue)
        else if rw.last ≠ some outcome then
          t.drc.state = .running ∧ t.drc.head = some slot ∧ t.drc.nextSeq = s.drc.nextSeq ∧
          t.drc.write = some { rw with last := some outcome } ∧
          (t.port.busy = some (.drc, .slotWrite slot rw.bytes) ∨
            t.port.drcWaits = some (.slotWrite slot rw.bytes))
        else if outcome = .different then
          t.drc.state = .running ∧ t.drc.head = some ((slot + 1) % 1920) ∧
          t.drc.nextSeq = some (rw.sequence + 1)
        else
          t.drc.state = .failed ∧ t.drc.queue = [] ∧ t.drc.write = none ∧ t.drc.syncTimer = .stopped ∧
          t.drc.lostCount = min 65535 (s.drc.lostCount + s.drc.queue.length)))

/-- SLOT_READ_END of the recovery scan asks for the next slot, asks again once after NO_ANSWER, and is FAILED at the
second; after slot 1,919 the recorder is RUNNING with the head behind the newest valid record, the next number after
its own and the oldest as the lowest found, the accumulators of the newest SYNC added to those counted; with no valid
record the head is slot 0 and the next number 1. SLOT_READ_END of a READ RECORDS keeps the record that is valid and
carries its number and marks any other MISSING, and the last one sends the reply (R158, R160), whose MISSING flags have
the i-th entry in bit i, the model's choice (log entry 19). -/
def Obligations.SlotReadCompletes : Prop :=
  ∀ (dt : Micros) (outcome : SlotEnd) (slot : Nat) (s : State), s.lnk.restart = none →
    s.port.busy = some (.drc, .slotRead slot) →
    (s.drc.state = .recovering → s.drc.scan.slot = slot → s.drc.read = none →
      ∃ t, exec (.slotReadEnd dt outcome) s = .next t ∧ InputsAndProfileKept s t ∧
        match outcome with
        | .noAnswer =>
          if s.drc.scan.again then t.drc.state = .failed ∧ t.drc.acc = s.drc.acc ∧ t.drc.queue = []
          else t.drc.state = .recovering ∧ t.drc.scan = { s.drc.scan with again := true } ∧
            (t.port.busy = some (.drc, .slotRead slot) ∨ t.port.drcWaits = some (.slotRead slot))
        | .done bytes =>
          let sc := { scanSlot s.drc.scan bytes.toList with again := false }
          if slot + 1 < 1920 then
            t.drc.state = .recovering ∧ t.drc.scan = { sc with slot := slot + 1 } ∧ t.drc.acc = s.drc.acc ∧
              (t.port.busy = some (.drc, .slotRead (slot + 1)) ∨
                t.port.drcWaits = some (.slotRead (slot + 1)))
          else match sc.newest with
            | some (n, at_) => n < lastSequence →
              t.drc.state = .running ∧ t.drc.head = some ((at_ + 1) % 1920) ∧
              t.drc.nextSeq = some (n + 1) ∧ t.drc.oldest = sc.lowest ∧ t.drc.restored = sc.sync.isSome ∧
              t.drc.acc = (match sc.sync with
                | some (_, a) => s.drc.acc.plus a
                | none => s.drc.acc)
            | none =>
              t.drc.state = .running ∧ t.drc.head = some 0 ∧ t.drc.nextSeq = some 1 ∧
              t.drc.oldest = sc.lowest) ∧
    (∀ r tag, s.drc.state = .running → s.drc.read = some r → r.issued = true → s.drc.write = none →
      s.drc.head ≠ none → s.drc.nextSeq ≠ none → s.lnk.service = some ⟨0x28#8, tag, none⟩ →
      ∃ t, exec (.slotReadEnd dt outcome) s = .next t ∧ InputsAndProfileKept s t ∧ t.drc.acc = s.drc.acc ∧
        match outcome with
        | .noAnswer =>
          if r.again then
            t.drc.state = .failed ∧ t.drc.read = none ∧
              t.lnk.service = some ⟨0x28#8, tag, some (replyFrame 0x28#8 tag [2#8, 8#8])⟩
          else t.drc.read = some { r with again := true } ∧ t.lnk.service = s.lnk.service
        | .done bytes =>
          let entries := r.entries ++
            [if slotValid bytes.toList && rd32 bytes.toList 0 = r.cursor then some bytes.toList else none]
          if r.cursor < r.last then
            t.drc.read = some { r with again := false, entries := entries, cursor := r.cursor + 1 } ∧
              t.lnk.service = s.lnk.service
          else t.drc.read = none ∧
            t.lnk.service =
              some ⟨0x28#8, tag, some (replyFrame 0x28#8 tag (recordsReply s.drc entries))⟩)

/-- READ_RECORDS: the tests of R160 in order give the reply, or the read is issued. MARK_RECORD: staged and OK, BUSY with
the queue full, REFUSED(RECORDER_FAILED) in FAILED. GET_ACCUMULATORS: answered at once, nothing else changed (R160 to
R162). That the newest written is the next number less 1, and that an absent oldest is sent as 0, is the model's reading
(log entry 21, DEDUCED). -/
def Obligations.RecorderRequestsComplete : Prop :=
  ∀ (dt : Micros) (tag : Byte) (s : State), LinkFree s → s.drc.read = none →
    let answered (kind : Byte) (body : List Byte) (t : State) : Prop :=
      t.lnk.service = some ⟨kind, tag, some (replyFrame kind tag body)⟩
    (∀ (sequence : BitVec 32) (count : Byte), s.drc.write = none →
      ∃ t, exec (.readRecords dt tag sequence count) s = .next t ∧ InputsAndProfileKept s t ∧
        t.drc.acc = s.drc.acc ∧
        (if count.toNat < 1 ∨ 3 < count.toNat then answered 0x28#8 [5#8] t
        else match s.drc.state with
          | .recovering => answered 0x28#8 [8#8] t
          | .failed => answered 0x28#8 [2#8, 8#8] t
          | .running =>
            if s.drc.oldest = none ∨ sequence.toNat < s.drc.oldest.getD 0 ∨
                s.drc.nextSeq.getD 1 - 1 < sequence.toNat then
              answered 0x28#8
                ([2#8, 7#8] ++ be32 (s.drc.oldest.getD 0) ++ be32 (s.drc.nextSeq.getD 1 - 1)) t
            else t.lnk.service = some ⟨0x28#8, tag, none⟩ ∧
              ∃ last, last = min (sequence.toNat + count.toNat - 1) (s.drc.nextSeq.getD 1 - 1) ∧
              t.drc.read =
                some ⟨sequence.toNat, count.toNat, true, sequence.toNat, last, false, []⟩)) ∧
    (∀ text : Vector Byte 16,
      ∃ t, exec (.markRecord dt tag text) s = .next t ∧ InputsAndProfileKept s t ∧ t.drc.acc = s.drc.acc ∧
        (if s.drc.state = .failed then answered 0x2A#8 [2#8, 8#8] t ∧ t.drc.queue = s.drc.queue
        else if 16 ≤ s.drc.queue.length then answered 0x2A#8 [8#8] t ∧ t.drc.queue = s.drc.queue
        else answered 0x2A#8 [0#8] t ∧
          ∃ rest, t.drc.queue =
            s.drc.queue ++ ⟨({ s with now := s.now + dt } : State).seconds, !s.drc.timeBase.synced,
              .hostMark text.toList⟩ :: rest)) ∧
    exec (.getAccumulators dt tag) s = .next { s with
      now := s.now + dt, agenda := [], port := s.port.serve
      lnk := { s.lnk with service := some ⟨0x29#8, tag, some (replyFrame 0x29#8 tag
        (0#8 :: accumulatorsReply { s with now := s.now + dt }))⟩ } }

/-- SET_TIME: a value of 0 is answered BAD_VALUE and sets nothing. Any other sets the time base so that the present
second reads it, marks it synced and is answered OK. From then on the base counts up by one each second and stays at
4,294,967,295; a later SET_TIME replaces it; a record produced then carries the new time without UNSYNCED, the records
in the queue keep their stamps, and a notice carries the time base's reading. Of two records of the ring the newer is the
one with the higher sequence number, whatever their times. Every reset returns the base to counting from 0, unsynced
(R163). That the second set begins at the request, so that the next reading comes a full second after it, is the model's
choice (log entry 57). -/
def Obligations.SetTimeSetsTheTimeBase : Prop :=
  (∀ (dt : Micros) (tag : Byte) (seconds : BitVec 32) (s : State), LinkFree s → s.drc.read = none →
    ∃ t, exec (.setTime dt tag seconds) s = .next t ∧ InputsAndProfileKept s t ∧ t.now = s.now + dt ∧
      t.drc.acc = s.drc.acc ∧ (∀ r ∈ s.drc.queue, r ∈ t.drc.queue) ∧
      (seconds.toNat = 0 → t.drc.timeBase = s.drc.timeBase ∧
        t.lnk.service = some ⟨0x2B#8, tag, some (replyFrame 0x2B#8 tag [5#8])⟩) ∧
      (seconds.toNat ≠ 0 →
        t.lnk.service = some ⟨0x2B#8, tag, some (replyFrame 0x2B#8 tag [0#8])⟩ ∧ t.drc.timeBase.synced = true ∧
        ∀ u : State, u.drc.timeBase = t.drc.timeBase →
          (∀ n : Nat, t.now + n * 1000000 ≤ u.now → u.now < t.now + (n + 1) * 1000000 →
            u.seconds = min 4294967295 (seconds.toNat + n)) ∧
          (∀ body, u.stamp body = ⟨u.seconds, false, body⟩) ∧
          (∀ n : News, u.lnk.masked n.kind = false → u.lnk.notices.length < 32 →
            (u.notify [n]).lnk.notices =
              u.lnk.notices ++ [⟨n.kind, u.seconds, n.subject, n.values⟩]))) ∧
  (∀ (n : Nat) (a : Accumulators) (r : Record) (sc : RingScan), 1 ≤ n → n ≤ lastSequence →
    r.time ≤ 4294967295 →
    (scanSlot sc (recordBytes n a r)).newest =
      match sc.newest with
      | some (m, at_) => if m < n then some (n, sc.slot) else some (m, at_)
      | none => some (n, sc.slot)) ∧
  State.reset.drc.timeBase = ⟨0, 0, false⟩ ∧ State.reset.now = 0 ∧
  (∀ rate faults schedule pending,
    (State.afterReset rate faults schedule pending).drc.timeBase = ⟨0, 0, false⟩ ∧
    (State.afterReset rate faults schedule pending).now = 0)

/-- A record as it is written fills a slot of 32 bytes that reads back as valid and carries its sequence number, its
time and its kind, and a SYNC gives back its accumulators. The slots stand in the ring from 0x1000 to 0xFFFF, slot i at
0x1000 + 32 × i, each one half of a 64-byte page and no two overlapping (R152, R153, R192). -/
def Obligations.RecordBytesReadBack : Prop :=
  (∀ i j bytes, i < 1920 → j < 1920 →
    let op : PortOp := .slotWrite i bytes
    op.address = 0x1000 + 32 * i ∧ op.size = 32 ∧ (PortOp.slotRead i).address = op.address ∧
    0x1000 ≤ op.address ∧ op.address + op.size ≤ 0x10000 ∧ (op.address % 64 = 0 ∨ op.address % 64 = 32) ∧
    (i < j → op.address + op.size ≤ (PortOp.slotRead j).address)) ∧
  ∀ (n : Nat) (a : Accumulators) (r : Record), 1 ≤ n → n ≤ lastSequence → r.time ≤ 4294967295 →
    let bs := recordBytes n a r
    bs.length = 32 ∧ slotValid bs = true ∧ rd32 bs 0 = n ∧ rd32 bs 4 = r.time ∧
    rd8 bs 8 = recordKindCode r.body ∧ (rd8 bs 9).testBit 0 = r.unsynced ∧
    (r.body.isSync = true → AccumulatorsAtMost a ⟨top32, top32, top32, top32, 65535, 65535⟩ →
      accumulatorsOf bs = a)

/-! ## The host link -/

/-- HLRX_BYTE by the receiver's table and GAP_TIMER_EXPIRY: in HUNTING only a sync byte received correctly begins a
frame; in ASSEMBLING a framing error, a length above 120, a wrong CRC and a gap each discard it and count BYTE_ERROR,
LENGTH, CRC and GAP; any other byte is kept and restarts the gap timer. The complete frame with a correct CRC is offered
to the receive buffer (R165, R166; an expiry taken late acts at the time it is taken, log entry 2). -/
def Obligations.ReceiverFollowsItsTable : Prop :=
  ∀ (s : State), s.lnk.restart = none →
    let at_ (time : Micros) (l : Lnk) : State :=
      { s with now := time, agenda := [], port := s.port.serve, lnk := l }
    let discard (faults : LinkFaults) : Lnk := { s.lnk with rx := none, gapTimer := .stopped, faults := faults }
    let x := s.lnk.faults
    (∀ due, s.lnk.gapTimer = .running due →
      exec .gapTimerExpiry s = .next (at_ (max s.now due) (discard { x with gap := min 65535 (x.gap + 1) }))) ∧
    (∀ dt b err, s.lnk.rx = none →
      exec (.hlrxByte dt b err) s = .next (at_ (s.now + dt)
        (if b = 0xA5#8 ∧ err = false then
          { s.lnk with rx := some [], gapTimer := .running (s.now + dt + 20000) } else s.lnk))) ∧
    (∀ dt b sofar, s.lnk.rx = some sofar →
      exec (.hlrxByte dt b true) s =
        .next (at_ (s.now + dt) (discard { x with byteError := min 65535 (x.byteError + 1) }))) ∧
    (∀ dt b, s.lnk.rx = some [] →
      exec (.hlrxByte dt b false) s = .next (at_ (s.now + dt)
        (if 120 < b.toNat then discard { x with length := min 65535 (x.length + 1) }
        else { s.lnk with rx := some [b], gapTimer := .running (s.now + dt + 20000) }))) ∧
    (∀ dt b len sofar, s.lnk.rx = some (len :: sofar) →
      let bytes := len :: sofar ++ [b]
      (bytes.length < len.toNat + 5 →
        exec (.hlrxByte dt b false) s = .next (at_ (s.now + dt)
          { s.lnk with rx := some bytes, gapTimer := .running (s.now + dt + 20000) })) ∧
      (bytes.length = len.toNat + 5 →
        (bytes.drop (len.toNat + 3) ≠ crcBytes (bytes.take (len.toNat + 3)) →
          exec (.hlrxByte dt b false) s =
            .next (at_ (s.now + dt) (discard { x with crc := min 65535 (x.crc + 1) }))) ∧
        (bytes.drop (len.toNat + 3) = crcBytes (bytes.take (len.toNat + 3)) →
          exec (.hlrxByte dt b false) s =
            .next ((at_ (s.now + dt) (discard x)).offerFrame (frameOf bytes)).finish)))

/-- The bytes of a frame of any kind, tag and body of up to 120 bytes, received one after another from HUNTING without a
framing error, offer exactly that frame to the receive buffer with the gap timer stopped, and change nothing else
(R165, R187, R189). -/
def Obligations.FrameBytesGiveTheFrameBack : Prop :=
  ∀ (f : Frame) (s : State), f.body.length ≤ 120 → s.lnk.rx = none →
    (0xA5#8 :: frameBytes f).foldl (fun s b => s.receive b false) s =
      ({ s with lnk := { s.lnk with gapTimer := .stopped } } : State).offerFrame f

/-- GET_STATUS, GET_INPUTS, GET_TANK, GET_LOCKOUTS and UNKNOWN_KIND are answered at once from the state as it stands and
change nothing but the reply; a tank above T3 is answered BAD_VALUE, and a kind outside the table UNKNOWN_KIND with
the kind plus 0x80 and its tag, the sum kept to eight bits for a kind of 0x80 or above, which is the model's choice (log
entry 38). The places of fields that R190 leaves open are those of log entries 13, 19 and 37 (R168, R169, R176,
R131). -/
def Obligations.ReadingRequestsAnswerAtOnce : Prop :=
  ∀ (dt : Micros) (tag : Byte) (s : State), LinkFree s →
    let answers (c : Instr) (kind : Byte) (body : List Byte) : Prop :=
      exec c s = .next { s with
        now := s.now + dt, agenda := [], port := s.port.serve
        lnk := { s.lnk with service := some ⟨kind, tag, some (replyFrame kind tag body)⟩ } }
    answers (.getStatus dt tag) 0x01#8 (0#8 :: statusReply s) ∧
    answers (.getInputs dt tag) 0x02#8 (0#8 :: inputsReply s) ∧
    (∀ tank : Byte, answers (.getTank dt tag tank) 0x03#8
      (match tankOf tank.toNat with
        | some t => 0#8 :: tankReply s t
        | none => [5#8])) ∧
    (∀ tank : Byte, tankOf tank.toNat = none ↔ 3 < tank.toNat) ∧
    answers (.getLockouts dt tag) 0x23#8 (0#8 :: lockoutsReply { s with now := s.now + dt }) ∧
    (∀ kind body, kind ∉ requestKinds → answers (.unknownKind dt tag kind body) kind [3#8])

/-- FETCH_NOTICES removes up to 8 notices from the front and returns them, oldest first, with their number and the number
that remain, a NOTICES_LOST among them when a loss was outstanding and notices were removed. SET_NOTICE_MASK refuses a
mask with any of bits 12 to 15 set, and otherwise takes it and removes the queued notices whose kind is now masked,
NOTICES_LOST never (R173, R174, R175). -/
def Obligations.NoticeRequestsComplete : Prop :=
  ∀ (dt : Micros) (tag : Byte) (s : State), LinkFree s →
    let time := ({ s with now := s.now + dt } : State).seconds
    let queue (kept : List Notice) : List Notice :=
      if kept.length < s.lnk.notices.length ∧ 0 < s.lnk.lost then
        kept ++ [⟨.noticesLost, time, 0#8, padTo 6 (be16 s.lnk.lost)⟩] else kept
    let leaves (mask : BitVec 16) (kept : List Notice) (kind : Byte) (body : List Byte) : State :=
      { s with
        now := s.now + dt, agenda := [], port := s.port.serve
        lnk := { s.lnk with
          mask := mask, notices := queue kept
          attnLow := if kept.length < s.lnk.notices.length then !(queue kept).isEmpty else s.lnk.attnLow
          lost := if kept.length < s.lnk.notices.length then 0 else s.lnk.lost
          service := some ⟨kind, tag, some (replyFrame kind tag body)⟩ } }
    exec (.fetchNotices dt tag) s = .next (leaves s.lnk.mask (s.lnk.notices.drop 8) 0x04#8
      ([0#8, byte (s.lnk.notices.take 8).length, byte (queue (s.lnk.notices.drop 8)).length] ++
        ((s.lnk.notices.take 8).map noticeBytes).flatten)) ∧
    ∀ mask : BitVec 16,
      (4096 ≤ mask.toNat → exec (.setNoticeMask dt tag mask) s = .next { s with
        now := s.now + dt, agenda := [], port := s.port.serve
        lnk := { s.lnk with service := some ⟨0x05#8, tag, some (replyFrame 0x05#8 tag [5#8])⟩ } }) ∧
      (mask.toNat < 4096 → exec (.setNoticeMask dt tag mask) s = .next (leaves mask
        (s.lnk.notices.filter fun n => !mask.getLsbD (noticeKindCode n.kind)) 0x05#8 [0#8]))

/-- REPLY_SENT ends the service of a request whose reply is formed; the waiting frame then enters service, and with a
restart pending the moment is kept, the restart taking place at once where the recorder is ready: every block takes its
reset state with the RATE strap sampled and the link fault counters kept. SOFT_RESTART is refused DRIVE_ACTIVE unless
both drives are DISENGAGED, answered BUSY while APPLYING, and otherwise OK with the recorder informed (R166, R167,
R171). The strap's level at a soft restart is the one last given (log entry 9, DESIGN CHOICE), and the queue of commands
and the schedule are kept (log entries 11 and 3), which are the model's own. -/
def Obligations.ReplySentAndSoftRestartComplete : Prop :=
  (∀ (dt : Micros) (s : State) (v : Service) (frame : List Byte), s.lnk.service = some v →
    v.reply = some frame →
    let at_ (l : Lnk) : State := { s with now := s.now + dt, agenda := [], port := s.port.serve, lnk := l }
    (s.lnk.restart = none → s.lnk.waiting = none →
      exec (.replySent dt) s = .next (at_ { s.lnk with service := none })) ∧
    (∀ f, s.lnk.restart = none → s.lnk.waiting = some f →
      exec (.replySent dt) s =
        .next ((at_ { s.lnk with service := none, waiting := none }).serve f).finish) ∧
    (∀ sent, s.lnk.restart = some ⟨sent, false⟩ →
      exec (.replySent dt) s = .next (at_ { s.lnk with service := none, restart := some ⟨true, false⟩ })) ∧
    (∀ sent, s.lnk.restart = some ⟨sent, true⟩ →
      exec (.replySent dt) s = .next { State.reset with
        ratePinHigh := s.ratePinHigh, schedule := s.schedule, pending := s.pending
        lnk := { State.reset.lnk with baudHigh := s.ratePinHigh, faults := s.lnk.faults } })) ∧
  (∀ (dt : Micros) (tag : Byte) (s : State), LinkFree s →
    (s.bothDisengaged = false →
      exec (.softRestart dt tag) s = .next { s with
        now := s.now + dt, agenda := [], port := s.port.serve
        lnk := { s.lnk with service := some ⟨0x3F#8, tag, some (replyFrame 0x3F#8 tag [2#8, 3#8])⟩ } }) ∧
    (s.bothDisengaged = true → s.pfu.conf = .applying →
      exec (.softRestart dt tag) s = .next { s with
        now := s.now + dt, agenda := [], port := s.port.serve
        lnk := { s.lnk with service := some ⟨0x3F#8, tag, some (replyFrame 0x3F#8 tag [8#8])⟩ } }) ∧
    (s.bothDisengaged = true → s.pfu.conf ≠ .applying → s.drc.read = none →
      ∃ t, exec (.softRestart dt tag) s = .next t ∧
        t.lnk.service = some ⟨0x3F#8, tag, some (replyFrame 0x3F#8 tag [0#8])⟩ ∧ t.isu = s.isu ∧ t.tgu = s.tgu ∧ t.lbu = s.lbu ∧
        t.deu = s.deu ∧ t.ppu = s.ppu ∧ t.lku = s.lku ∧ t.tau = s.tau ∧ t.pfu = s.pfu ∧
        t.drc.acc = s.drc.acc ∧
        (∃ ready, t.lnk.restart = some ⟨false, ready⟩ ∧ (s.drc.state ≠ .running → ready = true)) ∧
        (s.drc.state = .running → ∃ r ∈ t.drc.queue, r.body.marked = true)))

/-! ## The Profile Unit -/

/-- The supply monitor at a publication: each count follows its threshold, held at 2; two consecutive publications at
or above 10,500 mV take DROOP to RECOVERING with the recovery timer started, two below 8,500 mV take any other state to
DROOP with the timer stopped, and anything else keeps the state. A change is published to the DEU, LKU and DRC, and a
droop from NORMAL hands over its record. RECOVERY_TIMER_EXPIRY in RECOVERING enters NORMAL, with its record (R185; an
expiry taken late acts at the time it is taken, log entry 2). -/
def Obligations.SupplyMonitorCountsTwoPublications : Prop :=
  (∀ s : State,
    let p := s.pfu
    let mv := s.isu.pub.supplyMv
    let up : Bool := p.supply = .droop ∧ 10500 ≤ mv ∧ 1 ≤ p.highCount
    let down : Bool := p.supply ≠ .droop ∧ mv < 8500 ∧ 1 ≤ p.lowCount
    let t := s.pfuEvent .inputs
    t.pfu = { p with
      lowCount := if mv < 8500 then min 2 (p.lowCount + 1) else 0
      highCount := if 10500 ≤ mv then min 2 (p.highCount + 1) else 0
      supply := if up then .recovering else if down then .droop else p.supply
      recovery := if up then .running (s.now + 1500000) else if down then .stopped else p.recovery } ∧
    (up = false → down = false → t.agenda = s.agenda ∧ t.lnk = s.lnk) ∧
    (t.pfu.supply ≠ p.supply → ∀ b ∈ [Block.deu, .lku, .drc], (b, Event.supply p.supply t.pfu.supply) ∈ t.agenda) ∧
    (p.supply = .normal → t.pfu.supply = .droop →
      (Block.drc, Event.records [.supply .normal .droop mv]) ∈ t.agenda)) ∧
  (∀ (s : State) (due : Micros), s.pfu.recovery = .running due → s.pfu.supply = .recovering →
    ∃ u, exec .recoveryTimerExpiry s = .next u.finish ∧ Acts .pfu (max s.now due) s u ∧
      u.pfu = { s.pfu with supply := .normal, recovery := .stopped } ∧
      (s.lnk.restart = none → u.finish.pfu = u.pfu ∧ u.finish.isu = s.isu ∧ u.finish.tgu = s.tgu) ∧
      u.agenda = [(Block.drc, Event.records [.supply .recovering .normal s.isu.pub.supplyMv]),
        (.deu, .supply .recovering .normal), (.lku, .supply .recovering .normal),
        (.drc, .supply .recovering .normal)])

/-- PAGE_READ_END of a load takes the page into the active image and asks for the next; a first NO_ANSWER asks for the
page again, and a second ends the load with both images 0xFF throughout and the part UNCONFIGURED. After page 63 the
image is judged: valid, the part is CONFIGURED with its profile in use, and otherwise UNCONFIGURED; either way the edit
image is copied from the active one and every block is told. PAGE_READ_END of a PROFILE_READ gathers the pages it
touches and answers with the bytes asked for, or BUSY after two NO_ANSWER (R181, R182). A reply uses up one entry of the
schedule, the model's own (log entry 3). -/
def Obligations.PageReadsLoadAndAnswer : Prop :=
  ∀ (dt : Micros) (outcome : PageEnd) (page : Nat) (s : State), s.lnk.restart = none →
    s.port.busy = some (.pfu, .pageRead page) →
    let steps (pfu : Pfu) (next : Nat) : Prop :=
      ∃ p : Port,
        exec (.pageReadEnd dt outcome) s =
          .next { s with now := s.now + dt, agenda := [], pfu := pfu, port := p } ∧
        (p.busy = some (.pfu, .pageRead next) ∨ p.pfuWaits = some (.pageRead next))
    let ends (pfu : Pfu) : Prop :=
      ∃ u, exec (.pageReadEnd dt outcome) s = .next u.finish ∧ Acts .pfu (s.now + dt) s u ∧ u.pfu = pfu ∧
        u.finish.pfu = pfu ∧ u.agenda = confBlocks.map fun b => (b, .conf s.pfu.conf pfu.conf)
    (∀ again, s.pfu.task = .load page again →
      match outcome with
      | .noAnswer =>
        if again = false then steps { s.pfu with task := .load page true } page
        else ends { s.pfu with conf := .unconfigured, inUse := none, active := [], edit := [], task := .idle }
      | .done bytes =>
        let image := s.pfu.active.writeList (64 * page) bytes.toList
        if page < 63 then steps { s.pfu with active := image, task := .load (page + 1) false } (page + 1)
        else if validate image = none then
          ends { s.pfu with
            conf := .configured, inUse := some (profileOf image), active := image, edit := image, task := .idle }
        else
          ends { s.pfu with
            conf := .unconfigured, inUse := none, active := image, edit := image, task := .idle }) ∧
    (∀ address count again sofar tag, s.pfu.task = .read address count page again sofar →
      s.lnk.service = some ⟨0x30#8, tag, none⟩ →
      let answered (body : List Byte) : Prop :=
        exec (.pageReadEnd dt outcome) s = .next { s with
          now := s.now + dt, agenda := [], schedule := s.schedule.drop 1, port := s.port.free
          pfu := { s.pfu with task := .idle }
          lnk := { s.lnk with service := some ⟨0x30#8, tag, some (replyFrame 0x30#8 tag body)⟩ } }
      match outcome with
      | .noAnswer =>
        if again = false then steps { s.pfu with task := .read address count page true sofar } page
        else answered [8#8]
      | .done bytes =>
        if page < (address + count - 1) / 64 then
          steps { s.pfu with task := .read address count (page + 1) false (sofar ++ bytes.toList) } (page + 1)
        else answered (0#8 :: ((sofar ++ bytes.toList).drop (address % 64)).take count))

/-- PAGE_WRITE_END of an apply: read back equal, the next page of the edit image is written; after page 63 the edit
image becomes the active one, the part is CONFIGURED with its profile in use, a PROFILE_APPLIED record is handed over
and every block is told. Different or NO_ANSWER, the page is written again once; a second failure leaves no profile in
use and the part LOADING, the first page asked for (R183, R184). -/
def Obligations.PageWritesApplyTheProfile : Prop :=
  ∀ (dt : Micros) (outcome : WriteEnd) (page : Nat) (bytes : List Byte) (again : Bool) (s : State),
    s.lnk.restart = none → s.port.busy = some (.pfu, .pageWrite page bytes) → s.pfu.task = .apply page again →
    let steps (n : Nat) (once : Bool) : Prop :=
      let op : PortOp := .pageWrite n (s.pfu.edit.slice (64 * n) 64)
      ∃ p : Port,
        exec (.pageWriteEnd dt outcome) s = .next { s with
          now := s.now + dt, agenda := [], pfu := { s.pfu with task := .apply n once }, port := p } ∧
        (p.busy = some (.pfu, op) ∨ p.pfuWaits = some op)
    let ends (pfu : Pfu) (before : List (Block × Event)) (asks : Port → Prop) : Prop :=
      ∃ u, exec (.pageWriteEnd dt outcome) s = .next u.finish ∧ Acts .pfu (s.now + dt) s u ∧ u.pfu = pfu ∧
        u.finish.pfu = pfu ∧ asks u.port ∧
        u.agenda = before ++ confBlocks.map fun b => (b, .conf s.pfu.conf pfu.conf)
    if outcome = .equal then
      if page < 63 then steps (page + 1) false
      else
        let prof := profileOf s.pfu.edit
        ends { s.pfu with conf := .configured, inUse := some prof, active := s.pfu.edit, task := .idle }
          [(.drc, .records [.profileApplied prof.version prof.name])] fun _ => True
    else if again = false then steps page true
    else
      ends { s.pfu with conf := .loading, inUse := none, task := .load 0 false } []
        fun p => p.busy = some (.pfu, .pageRead 0) ∨ p.pfuWaits = some (.pageRead 0)

/-- PROFILE_READ, PROFILE_WRITE, PROFILE_DISCARD and PROFILE_APPLY: the tests of R182 and R183 in order give the reply,
and what each does to the images; nothing else changes. An accepted apply keeps the CRCs computed, is APPLYING, asks
for the first page to be written and tells every block (R182, R183). That BAD_VALUE comes before BUSY in a PROFILE_READ
is the model's choice (log entry 39), and a reply uses up one entry of the schedule, the model's own (log entry 3). -/
def Obligations.ProfileRequestsComplete : Prop :=
  ∀ (dt : Micros) (tag : Byte) (s : State), LinkFree s →
    let answers (c : Instr) (kind : Byte) (pfu : Pfu) (body : List Byte) : Prop :=
      exec c s = .next { s with
        now := s.now + dt, agenda := [], schedule := s.schedule.drop 1, port := s.port.serve, pfu := pfu
        lnk := { s.lnk with service := some ⟨kind, tag, some (replyFrame kind tag body)⟩ } }
    let busy : Prop := s.pfu.conf = .loading ∨ s.pfu.conf = .applying
    (∀ (source sect : Byte) (offset : BitVec 16) (count : Byte),
      let c : Instr := .profileRead dt tag source sect offset count
      let n := count.toNat
      match sectionPlace sect.toNat with
      | none => answers c 0x30#8 s.pfu [5#8]
      | some p =>
        let a := p.address + offset.toNat
        if 1 < source.toNat ∨ n < 1 ∨ 112 < n ∨ p.size + 2 < offset.toNat + n then answers c 0x30#8 s.pfu [5#8]
        else if s.pfu.conf = .loading then answers c 0x30#8 s.pfu [8#8]
        else if source.toNat = 1 then answers c 0x30#8 s.pfu (0#8 :: s.pfu.edit.slice a n)
        else if s.pfu.conf = .applying then answers c 0x30#8 s.pfu [8#8]
        else ∃ q : Port,
          exec c s = .next { s with
            now := s.now + dt, agenda := [], port := q, pfu := { s.pfu with task := .read a n (a / 64) false [] }
            lnk := { s.lnk with service := some ⟨0x30#8, tag, none⟩ } } ∧
          (q.busy = some (.pfu, .pageRead (a / 64)) ∨ q.pfuWaits = some (.pageRead (a / 64)))) ∧
    (∀ (sect : Byte) (offset : BitVec 16) (bytes : List Byte), 1 ≤ bytes.length → bytes.length ≤ 112 →
      let c : Instr := .profileWrite dt tag sect offset bytes
      if s.level .serviceKey = false then answers c 0x31#8 s.pfu [7#8]
      else if busy then answers c 0x31#8 s.pfu [8#8]
      else match sectionPlace sect.toNat with
        | none => answers c 0x31#8 s.pfu [5#8]
        | some p =>
          if p.size < offset.toNat + bytes.length then answers c 0x31#8 s.pfu [5#8]
          else answers c 0x31#8
            { s.pfu with edit := s.pfu.edit.writeList (p.address + offset.toNat) bytes } [0#8]) ∧
    (if busy then answers (.profileDiscard dt tag) 0x33#8 s.pfu [8#8]
    else answers (.profileDiscard dt tag) 0x33#8 { s.pfu with edit := s.pfu.active } [0#8]) ∧
    (let c : Instr := .profileApply dt tag
     let image := writeCrcs s.pfu.edit
     if s.level .serviceKey = false then answers c 0x32#8 s.pfu [7#8]
     else if busy then answers c 0x32#8 s.pfu [8#8]
     else if s.bothDisengaged = false then answers c 0x32#8 s.pfu [2#8, 3#8]
     else match fieldFinding image with
      | some (.invalid n off) =>
        answers c 0x32#8 { s.pfu with edit := image } ([2#8, 9#8, byte n] ++ be16 off)
      | _ =>
        ∃ u, exec c s = .next u.finish ∧ Serves .pfu (s.now + dt) 0x32#8 tag none s u ∧
          u.pfu = { s.pfu with conf := .applying, edit := image, task := .apply 0 false } ∧
          u.finish.pfu = u.pfu ∧
          (u.port.busy = some (.pfu, .pageWrite 0 (image.slice 0 64)) ∨
            u.port.pfuWaits = some (.pageWrite 0 (image.slice 0 64))) ∧
          u.agenda = (Block.lnk, Event.reply [1#8]) ::
            confBlocks.map fun b => (b, .conf s.pfu.conf .applying))

/-- An image in its canonical form whose section CRCs the part has computed passes the first pass of validation, with
every section's data bytes as they were. An image whose fields pass the second pass gives every enabled tank a sound
entry: strapping heights that rise strictly from 0 and volumes that do not fall, boundaries that rise within them with
more than the hysteresis between them, and one to four probes in range (R20, R45, R178, R183). -/
def Obligations.ValidImagesGiveSoundTanks : Prop :=
  (∀ m : Memory, m.wf = true →
    crcFinding (writeCrcs m) = none ∧ (writeCrcs m).wf = true ∧
    ∀ n < 7, sectionData (writeCrcs m) n = sectionData m n) ∧
  (∀ m : Memory, fieldFinding m = none → ∀ tank : Tank,
    let e := (profileOf m).tanks.get tank
    e.enabled = true →
    (e.strap.map (·.height)).Pairwise (· < ·) ∧ (e.strap.map (·.volume)).Pairwise (· ≤ ·) ∧
    (∃ p rest, e.strap = p :: rest ∧ p.height = 0 ∧ 0 ≤ p.volume) ∧
    2 ≤ e.strap.length ∧ e.strap.length ≤ 33 ∧ e.lastPoint.height ≤ 8000 ∧ e.lastPoint.volume ≤ 40000 ∧
    0 ≤ e.b1 ∧ e.b1 < e.b2 ∧ e.b2 < e.b3 ∧ e.b3 < e.b4 ∧ e.b4 ≤ e.lastPoint.volume ∧
    0 ≤ e.hysteresis ∧ e.hysteresis < e.b2 - e.b1 ∧ e.hysteresis < e.b3 - e.b2 ∧
    e.hysteresis < e.b4 - e.b3 ∧
    1 ≤ e.probes.length ∧ e.probes.length ≤ 4 ∧
    ∀ p ∈ e.probes, 200 ≤ p.rangeMm ∧ p.rangeMm ≤ 4000 ∧ 0 ≤ p.z ∧ p.z ≤ 4000)

end
end

