-- ==== Sys2Proof/Laws/Memory.lean ====
section
/-! SUPPORT. Images of the profile area: every operation keeps the canonical form, and reads see writes. -/

namespace Sys2Proof.Machine

theorem Memory.wfFrom_mono {lo hi : Nat} (h : lo ≤ hi) :
    ∀ {m : Memory}, Memory.wfFrom hi m = true → Memory.wfFrom lo m = true
  | [], _ => rfl
  | (k, b) :: rest, hm => by
    simp only [Memory.wfFrom, Bool.and_eq_true, decide_eq_true_eq] at hm ⊢
    exact ⟨⟨le_trans h hm.1.1, hm.1.2⟩, hm.2⟩

/-- Every listed address lies at or above the bound of the form. -/
theorem Memory.read_below {lo a : Nat} (h : a < lo) :
    ∀ {m : Memory}, Memory.wfFrom lo m = true → Memory.read m a = Memory.erased
  | [], _ => rfl
  | (k, b) :: rest, hm => by
    simp only [Memory.wfFrom, Bool.and_eq_true, decide_eq_true_eq] at hm
    have hk : k ≠ a := by omega
    simp only [Memory.read, if_neg hk]
    exact Memory.read_below (by omega) hm.2

theorem Memory.write_wfFrom {lo a : Nat} (v : Byte) (h : lo ≤ a) :
    ∀ {m : Memory}, Memory.wfFrom lo m = true → Memory.wfFrom lo (Memory.write m a v) = true
  | [], _ => by
    by_cases hv : v = Memory.erased <;> simp [Memory.write, Memory.wfFrom, hv, h]
  | (k, b) :: rest, hm => by
    simp only [Memory.wfFrom, Bool.and_eq_true, decide_eq_true_eq] at hm
    obtain ⟨⟨hk, hb⟩, hrest⟩ := hm
    unfold Memory.write
    split
    · split <;> simp_all [Memory.wfFrom]
    · split
      · split
        · exact Memory.wfFrom_mono (by omega) hrest
        · simp_all [Memory.wfFrom]
      · simp only [Memory.wfFrom, Bool.and_eq_true, decide_eq_true_eq]
        exact ⟨⟨hk, hb⟩, Memory.write_wfFrom v (by omega) hrest⟩

/-- Writing a byte keeps the canonical form. -/
theorem Memory.write_wf {m : Memory} (a : Nat) (v : Byte) (h : m.wf = true) :
    Memory.wf (Memory.write m a v) = true :=
  Memory.write_wfFrom v (Nat.zero_le a) h

/-- Writing bytes keeps the canonical form. -/
theorem Memory.writeList_wf :
    ∀ (vs : List Byte) {m : Memory} (a : Nat), m.wf = true → Memory.wf (Memory.writeList m a vs) = true
  | [], _, _, h => h
  | v :: vs, _, a, h => Memory.writeList_wf vs (a + 1) (Memory.write_wf a v h)

/-- Writing the CRC of a section keeps the canonical form. -/
theorem Memory.writeSectionCrc_wf {m : Memory} (n : Nat) (h : m.wf = true) :
    Memory.wf (writeSectionCrc m n) = true := by
  unfold writeSectionCrc
  split
  · exact Memory.writeList_wf _ _ h
  · exact h

/-- Writing the CRCs of all sections keeps the canonical form. -/
theorem Memory.writeCrcs_wf {m : Memory} (h : m.wf = true) : Memory.wf (writeCrcs m) = true := by
  unfold writeCrcs
  generalize List.range 7 = ns
  induction ns generalizing m with
  | nil => exact h
  | cons n ns ih => exact ih (Memory.writeSectionCrc_wf n h)

/-- Reading after a write: the written byte at its address, and every other byte as before. -/
theorem Memory.read_writeFrom {lo a : Nat} (v : Byte) (x : Nat) :
    ∀ {m : Memory}, Memory.wfFrom lo m = true →
      Memory.read (Memory.write m a v) x = if x = a then v else Memory.read m x
  | [], _ => by
    by_cases hv : v = Memory.erased <;> by_cases hx : x = a
    · simp [Memory.write, Memory.read, hv]
    · simp [Memory.write, Memory.read, hv]
    · simp [Memory.write, Memory.read, hv, hx]
    · simp [Memory.write, Memory.read, hv, hx]
      exact fun h => hx h.symm
  | (k, b) :: rest, hm => by
    simp only [Memory.wfFrom, Bool.and_eq_true, decide_eq_true_eq] at hm
    obtain ⟨⟨hk, hb⟩, hrest⟩ := hm
    unfold Memory.write
    split
    · rename_i hak
      by_cases hx : x = a
      · subst hx
        have hkx : k ≠ x := by omega
        have := Memory.read_below (a := x) (by omega) hrest
        by_cases hv : v = Memory.erased <;> simp_all [Memory.read]
      · have hax : a ≠ x := fun h => hx h.symm
        by_cases hv : v = Memory.erased <;> simp [Memory.read, hv, hax, hx]
    · split
      · rename_i hak
        subst hak
        by_cases hx : x = a
        · subst hx
          have := Memory.read_below (a := x) (Nat.lt_succ_self x) hrest
          by_cases hv : v = Memory.erased <;> simp_all [Memory.read]
        · have hax : a ≠ x := fun h => hx h.symm
          by_cases hv : v = Memory.erased <;> simp [Memory.read, hv, hax, hx]
      · simp only [Memory.read]
        rw [Memory.read_writeFrom v x hrest]
        by_cases hkx : k = x
        · have : x ≠ a := by omega
          simp [hkx, this]
        · simp [hkx]

/-- A byte written reads back. -/
theorem Memory.read_write_self {m : Memory} (h : m.wf = true) (a : Nat) (v : Byte) :
    Memory.read (Memory.write m a v) a = v := by
  rw [Memory.read_writeFrom v a h, if_pos rfl]

/-- A write leaves every other byte as it was. -/
theorem Memory.read_write_other {m : Memory} (h : m.wf = true) {a x : Nat} (v : Byte) (hx : x ≠ a) :
    Memory.read (Memory.write m a v) x = Memory.read m x := by
  rw [Memory.read_writeFrom v x h, if_neg hx]

/-- Reading after bytes were written. -/
theorem Memory.read_writeList :
    ∀ (vs : List Byte) {m : Memory} (a x : Nat), m.wf = true →
      Memory.read (Memory.writeList m a vs) x =
        if a ≤ x ∧ x < a + vs.length then vs.getD (x - a) Memory.erased else Memory.read m x
  | [], m, a, x, _ => by
    have : ¬ (a ≤ x ∧ x < a + ([] : List Byte).length) := by simp
    rw [if_neg this]; rfl
  | v :: vs, m, a, x, h => by
    show Memory.read (Memory.writeList (Memory.write m a v) (a + 1) vs) x = _
    rw [Memory.read_writeList vs (a + 1) x (Memory.write_wf a v h), Memory.read_writeFrom v x h]
    by_cases hx : x = a
    · subst hx; simp
    · by_cases hlt : a + 1 ≤ x ∧ x < a + 1 + vs.length
      · have h2 : a ≤ x ∧ x < a + (v :: vs).length := by simp; omega
        have h3 : x - a = (x - (a + 1)) + 1 := by omega
        rw [if_pos hlt, if_pos h2, h3]; rfl
      · have h2 : ¬ (a ≤ x ∧ x < a + (v :: vs).length) := by simp; omega
        rw [if_neg hlt, if_neg h2, if_neg hx]

/-- The images of a part just reset have the form. -/
theorem Memory.reset_wf : Pfu.reset.active.wf = true ∧ Pfu.reset.edit.wf = true := ⟨rfl, rfl⟩

end Sys2Proof.Machine
end

