-- ==== Sys2Proof/Laws/State.lean ====
section
/-! SUPPORT. One lemma for each field of State and each operation that updates it: what the operation makes
of the field. -/

namespace Sys2Proof.Machine

/-! ## notify -/

@[simp] theorem State.notify_now (s : State) (news : List News) : (s.notify news).now = s.now := rfl
@[simp] theorem State.notify_ratePinHigh (s : State) (news : List News) :
    (s.notify news).ratePinHigh = s.ratePinHigh := rfl
@[simp] theorem State.notify_isu (s : State) (news : List News) : (s.notify news).isu = s.isu := rfl
@[simp] theorem State.notify_tgu (s : State) (news : List News) : (s.notify news).tgu = s.tgu := rfl
@[simp] theorem State.notify_lbu (s : State) (news : List News) : (s.notify news).lbu = s.lbu := rfl
@[simp] theorem State.notify_deu (s : State) (news : List News) : (s.notify news).deu = s.deu := rfl
@[simp] theorem State.notify_ppu (s : State) (news : List News) : (s.notify news).ppu = s.ppu := rfl
@[simp] theorem State.notify_lku (s : State) (news : List News) : (s.notify news).lku = s.lku := rfl
@[simp] theorem State.notify_tau (s : State) (news : List News) : (s.notify news).tau = s.tau := rfl
@[simp] theorem State.notify_drc (s : State) (news : List News) : (s.notify news).drc = s.drc := rfl
@[simp] theorem State.notify_lnk (s : State) (news : List News) :
    (s.notify news).lnk = news.foldl (fun l n => l.post s.seconds n) s.lnk := rfl
@[simp] theorem State.notify_pfu (s : State) (news : List News) : (s.notify news).pfu = s.pfu := rfl
@[simp] theorem State.notify_port (s : State) (news : List News) : (s.notify news).port = s.port := rfl
@[simp] theorem State.notify_schedule (s : State) (news : List News) :
    (s.notify news).schedule = s.schedule := rfl
@[simp] theorem State.notify_agenda (s : State) (news : List News) :
    (s.notify news).agenda = s.agenda := rfl
@[simp] theorem State.notify_pending (s : State) (news : List News) :
    (s.notify news).pending = s.pending := rfl

/-! ## emit -/

@[simp] theorem State.emit_now (s : State) (o : Out) : (s.emit o).now = s.now := rfl
@[simp] theorem State.emit_ratePinHigh (s : State) (o : Out) : (s.emit o).ratePinHigh = s.ratePinHigh := rfl
@[simp] theorem State.emit_isu (s : State) (o : Out) : (s.emit o).isu = s.isu := rfl
@[simp] theorem State.emit_tgu (s : State) (o : Out) : (s.emit o).tgu = s.tgu := rfl
@[simp] theorem State.emit_lbu (s : State) (o : Out) : (s.emit o).lbu = s.lbu := rfl
@[simp] theorem State.emit_deu (s : State) (o : Out) : (s.emit o).deu = s.deu := rfl
@[simp] theorem State.emit_ppu (s : State) (o : Out) : (s.emit o).ppu = s.ppu := rfl
@[simp] theorem State.emit_lku (s : State) (o : Out) : (s.emit o).lku = s.lku := rfl
@[simp] theorem State.emit_tau (s : State) (o : Out) : (s.emit o).tau = s.tau := rfl
@[simp] theorem State.emit_drc (s : State) (o : Out) : (s.emit o).drc = s.drc := rfl
@[simp] theorem State.emit_lnk (s : State) (o : Out) : (s.emit o).lnk = (s.notify o.news).lnk := rfl
@[simp] theorem State.emit_pfu (s : State) (o : Out) : (s.emit o).pfu = s.pfu := rfl
@[simp] theorem State.emit_port (s : State) (o : Out) : (s.emit o).port = s.port := rfl
@[simp] theorem State.emit_schedule (s : State) (o : Out) : (s.emit o).schedule = s.schedule := rfl
@[simp] theorem State.emit_agenda (s : State) (o : Out) : (s.emit o).agenda = s.agenda ++ o.events := rfl
@[simp] theorem State.emit_pending (s : State) (o : Out) : (s.emit o).pending = s.pending := rfl

/-! ## answer -/

@[simp] theorem State.answer_now (s : State) (body : List Byte) : (s.answer body).now = s.now := rfl
@[simp] theorem State.answer_ratePinHigh (s : State) (body : List Byte) :
    (s.answer body).ratePinHigh = s.ratePinHigh := rfl
@[simp] theorem State.answer_isu (s : State) (body : List Byte) : (s.answer body).isu = s.isu := rfl
@[simp] theorem State.answer_tgu (s : State) (body : List Byte) : (s.answer body).tgu = s.tgu := rfl
@[simp] theorem State.answer_lbu (s : State) (body : List Byte) : (s.answer body).lbu = s.lbu := rfl
@[simp] theorem State.answer_deu (s : State) (body : List Byte) : (s.answer body).deu = s.deu := rfl
@[simp] theorem State.answer_ppu (s : State) (body : List Byte) : (s.answer body).ppu = s.ppu := rfl
@[simp] theorem State.answer_lku (s : State) (body : List Byte) : (s.answer body).lku = s.lku := rfl
@[simp] theorem State.answer_tau (s : State) (body : List Byte) : (s.answer body).tau = s.tau := rfl
@[simp] theorem State.answer_drc (s : State) (body : List Byte) : (s.answer body).drc = s.drc := rfl
@[simp] theorem State.answer_lnk (s : State) (body : List Byte) :
    (s.answer body).lnk = s.lnk.answer body := rfl
@[simp] theorem State.answer_pfu (s : State) (body : List Byte) : (s.answer body).pfu = s.pfu := rfl
@[simp] theorem State.answer_port (s : State) (body : List Byte) : (s.answer body).port = s.port := rfl
@[simp] theorem State.answer_schedule (s : State) (body : List Byte) :
    (s.answer body).schedule = s.schedule := rfl
@[simp] theorem State.answer_agenda (s : State) (body : List Byte) :
    (s.answer body).agenda = s.agenda := rfl
@[simp] theorem State.answer_pending (s : State) (body : List Byte) :
    (s.answer body).pending = s.pending := rfl

/-! ## answerStatus -/

@[simp] theorem State.answerStatus_now (s : State) (st : Status) : (s.answerStatus st).now = s.now := rfl
@[simp] theorem State.answerStatus_ratePinHigh (s : State) (st : Status) :
    (s.answerStatus st).ratePinHigh = s.ratePinHigh := rfl
@[simp] theorem State.answerStatus_isu (s : State) (st : Status) : (s.answerStatus st).isu = s.isu := rfl
@[simp] theorem State.answerStatus_tgu (s : State) (st : Status) : (s.answerStatus st).tgu = s.tgu := rfl
@[simp] theorem State.answerStatus_lbu (s : State) (st : Status) : (s.answerStatus st).lbu = s.lbu := rfl
@[simp] theorem State.answerStatus_deu (s : State) (st : Status) : (s.answerStatus st).deu = s.deu := rfl
@[simp] theorem State.answerStatus_ppu (s : State) (st : Status) : (s.answerStatus st).ppu = s.ppu := rfl
@[simp] theorem State.answerStatus_lku (s : State) (st : Status) : (s.answerStatus st).lku = s.lku := rfl
@[simp] theorem State.answerStatus_tau (s : State) (st : Status) : (s.answerStatus st).tau = s.tau := rfl
@[simp] theorem State.answerStatus_drc (s : State) (st : Status) : (s.answerStatus st).drc = s.drc := rfl
@[simp] theorem State.answerStatus_lnk (s : State) (st : Status) :
    (s.answerStatus st).lnk = s.lnk.answer st.bytes := rfl
@[simp] theorem State.answerStatus_pfu (s : State) (st : Status) : (s.answerStatus st).pfu = s.pfu := rfl
@[simp] theorem State.answerStatus_port (s : State) (st : Status) : (s.answerStatus st).port = s.port := rfl
@[simp] theorem State.answerStatus_schedule (s : State) (st : Status) :
    (s.answerStatus st).schedule = s.schedule := rfl
@[simp] theorem State.answerStatus_agenda (s : State) (st : Status) :
    (s.answerStatus st).agenda = s.agenda := rfl
@[simp] theorem State.answerStatus_pending (s : State) (st : Status) :
    (s.answerStatus st).pending = s.pending := rfl

/-! ## answerOk -/

@[simp] theorem State.answerOk_now (s : State) (data : List Byte) : (s.answerOk data).now = s.now := rfl
@[simp] theorem State.answerOk_ratePinHigh (s : State) (data : List Byte) :
    (s.answerOk data).ratePinHigh = s.ratePinHigh := rfl
@[simp] theorem State.answerOk_isu (s : State) (data : List Byte) : (s.answerOk data).isu = s.isu := rfl
@[simp] theorem State.answerOk_tgu (s : State) (data : List Byte) : (s.answerOk data).tgu = s.tgu := rfl
@[simp] theorem State.answerOk_lbu (s : State) (data : List Byte) : (s.answerOk data).lbu = s.lbu := rfl
@[simp] theorem State.answerOk_deu (s : State) (data : List Byte) : (s.answerOk data).deu = s.deu := rfl
@[simp] theorem State.answerOk_ppu (s : State) (data : List Byte) : (s.answerOk data).ppu = s.ppu := rfl
@[simp] theorem State.answerOk_lku (s : State) (data : List Byte) : (s.answerOk data).lku = s.lku := rfl
@[simp] theorem State.answerOk_tau (s : State) (data : List Byte) : (s.answerOk data).tau = s.tau := rfl
@[simp] theorem State.answerOk_drc (s : State) (data : List Byte) : (s.answerOk data).drc = s.drc := rfl
@[simp] theorem State.answerOk_lnk (s : State) (data : List Byte) :
    (s.answerOk data).lnk = s.lnk.answer (Status.ok.bytes ++ data) := rfl
@[simp] theorem State.answerOk_pfu (s : State) (data : List Byte) : (s.answerOk data).pfu = s.pfu := rfl
@[simp] theorem State.answerOk_port (s : State) (data : List Byte) : (s.answerOk data).port = s.port := rfl
@[simp] theorem State.answerOk_schedule (s : State) (data : List Byte) :
    (s.answerOk data).schedule = s.schedule := rfl
@[simp] theorem State.answerOk_agenda (s : State) (data : List Byte) :
    (s.answerOk data).agenda = s.agenda := rfl
@[simp] theorem State.answerOk_pending (s : State) (data : List Byte) :
    (s.answerOk data).pending = s.pending := rfl

/-! ## beginAt -/

@[simp] theorem State.beginAt_now (s : State) (t : Micros) : (s.beginAt t).now = t := rfl
@[simp] theorem State.beginAt_ratePinHigh (s : State) (t : Micros) :
    (s.beginAt t).ratePinHigh = s.ratePinHigh := rfl
@[simp] theorem State.beginAt_isu (s : State) (t : Micros) : (s.beginAt t).isu = s.isu := rfl
@[simp] theorem State.beginAt_tgu (s : State) (t : Micros) : (s.beginAt t).tgu = s.tgu := rfl
@[simp] theorem State.beginAt_lbu (s : State) (t : Micros) : (s.beginAt t).lbu = s.lbu := rfl
@[simp] theorem State.beginAt_deu (s : State) (t : Micros) : (s.beginAt t).deu = s.deu := rfl
@[simp] theorem State.beginAt_ppu (s : State) (t : Micros) : (s.beginAt t).ppu = s.ppu := rfl
@[simp] theorem State.beginAt_lku (s : State) (t : Micros) : (s.beginAt t).lku = s.lku := rfl
@[simp] theorem State.beginAt_tau (s : State) (t : Micros) : (s.beginAt t).tau = s.tau := rfl
@[simp] theorem State.beginAt_drc (s : State) (t : Micros) : (s.beginAt t).drc = s.drc := rfl
@[simp] theorem State.beginAt_lnk (s : State) (t : Micros) : (s.beginAt t).lnk = s.lnk := rfl
@[simp] theorem State.beginAt_pfu (s : State) (t : Micros) : (s.beginAt t).pfu = s.pfu := rfl
@[simp] theorem State.beginAt_port (s : State) (t : Micros) : (s.beginAt t).port = s.port.serve := rfl
@[simp] theorem State.beginAt_schedule (s : State) (t : Micros) : (s.beginAt t).schedule = s.schedule := rfl
@[simp] theorem State.beginAt_agenda (s : State) (t : Micros) : (s.beginAt t).agenda = [] := rfl
@[simp] theorem State.beginAt_pending (s : State) (t : Micros) : (s.beginAt t).pending = s.pending := rfl

/-! ## portFreed -/

@[simp] theorem State.portFreed_now (s : State) : (s.portFreed).now = s.now := rfl
@[simp] theorem State.portFreed_ratePinHigh (s : State) : (s.portFreed).ratePinHigh = s.ratePinHigh := rfl
@[simp] theorem State.portFreed_isu (s : State) : (s.portFreed).isu = s.isu := rfl
@[simp] theorem State.portFreed_tgu (s : State) : (s.portFreed).tgu = s.tgu := rfl
@[simp] theorem State.portFreed_lbu (s : State) : (s.portFreed).lbu = s.lbu := rfl
@[simp] theorem State.portFreed_deu (s : State) : (s.portFreed).deu = s.deu := rfl
@[simp] theorem State.portFreed_ppu (s : State) : (s.portFreed).ppu = s.ppu := rfl
@[simp] theorem State.portFreed_lku (s : State) : (s.portFreed).lku = s.lku := rfl
@[simp] theorem State.portFreed_tau (s : State) : (s.portFreed).tau = s.tau := rfl
@[simp] theorem State.portFreed_drc (s : State) : (s.portFreed).drc = s.drc := rfl
@[simp] theorem State.portFreed_lnk (s : State) : (s.portFreed).lnk = s.lnk := rfl
@[simp] theorem State.portFreed_pfu (s : State) : (s.portFreed).pfu = s.pfu := rfl
@[simp] theorem State.portFreed_port (s : State) : (s.portFreed).port = s.port.free := rfl
@[simp] theorem State.portFreed_schedule (s : State) : (s.portFreed).schedule = s.schedule := rfl
@[simp] theorem State.portFreed_agenda (s : State) : (s.portFreed).agenda = s.agenda := rfl
@[simp] theorem State.portFreed_pending (s : State) : (s.portFreed).pending = s.pending := rfl

/-! ## isuScanned -/

@[simp] theorem State.isuScanned_now (s : State) (codes : List (BitVec 12)) (samples : BitVec 12) :
    (s.isuScanned codes samples).now = s.now := rfl
@[simp] theorem State.isuScanned_ratePinHigh (s : State) (codes : List (BitVec 12)) (samples : BitVec 12) :
    (s.isuScanned codes samples).ratePinHigh = s.ratePinHigh := rfl
@[simp] theorem State.isuScanned_isu (s : State) (codes : List (BitVec 12)) (samples : BitVec 12) :
    (s.isuScanned codes samples).isu = isuScan s codes samples := rfl
@[simp] theorem State.isuScanned_tgu (s : State) (codes : List (BitVec 12)) (samples : BitVec 12) :
    (s.isuScanned codes samples).tgu = s.tgu := rfl
@[simp] theorem State.isuScanned_lbu (s : State) (codes : List (BitVec 12)) (samples : BitVec 12) :
    (s.isuScanned codes samples).lbu = s.lbu := rfl
@[simp] theorem State.isuScanned_deu (s : State) (codes : List (BitVec 12)) (samples : BitVec 12) :
    (s.isuScanned codes samples).deu = s.deu := rfl
@[simp] theorem State.isuScanned_ppu (s : State) (codes : List (BitVec 12)) (samples : BitVec 12) :
    (s.isuScanned codes samples).ppu = s.ppu := rfl
@[simp] theorem State.isuScanned_lku (s : State) (codes : List (BitVec 12)) (samples : BitVec 12) :
    (s.isuScanned codes samples).lku = s.lku := rfl
@[simp] theorem State.isuScanned_tau (s : State) (codes : List (BitVec 12)) (samples : BitVec 12) :
    (s.isuScanned codes samples).tau = s.tau := rfl
@[simp] theorem State.isuScanned_drc (s : State) (codes : List (BitVec 12)) (samples : BitVec 12) :
    (s.isuScanned codes samples).drc = s.drc := rfl
@[simp] theorem State.isuScanned_lnk (s : State) (codes : List (BitVec 12)) (samples : BitVec 12) :
    (s.isuScanned codes samples).lnk = (s.notify (scanNews s.isu codes)).lnk := rfl
@[simp] theorem State.isuScanned_pfu (s : State) (codes : List (BitVec 12)) (samples : BitVec 12) :
    (s.isuScanned codes samples).pfu = s.pfu := rfl
@[simp] theorem State.isuScanned_port (s : State) (codes : List (BitVec 12)) (samples : BitVec 12) :
    (s.isuScanned codes samples).port = s.port := rfl
@[simp] theorem State.isuScanned_schedule (s : State) (codes : List (BitVec 12)) (samples : BitVec 12) :
    (s.isuScanned codes samples).schedule = s.schedule := rfl
@[simp] theorem State.isuScanned_agenda (s : State) (codes : List (BitVec 12)) (samples : BitVec 12) :
    (s.isuScanned codes samples).agenda = s.agenda ++ toBlocks [.lbu, .deu, .ppu, .lku, .tau, .pfu] .inputs := rfl
@[simp] theorem State.isuScanned_pending (s : State) (codes : List (BitVec 12)) (samples : BitVec 12) :
    (s.isuScanned codes samples).pending = s.pending := rfl

/-! ## tguCycled -/

@[simp] theorem State.tguCycled_now (s : State) : (s.tguCycled).now = s.now := rfl
@[simp] theorem State.tguCycled_ratePinHigh (s : State) : (s.tguCycled).ratePinHigh = s.ratePinHigh := rfl
@[simp] theorem State.tguCycled_isu (s : State) : (s.tguCycled).isu = s.isu := rfl
@[simp] theorem State.tguCycled_tgu (s : State) : (s.tguCycled).tgu = tguCycle s := rfl
@[simp] theorem State.tguCycled_lbu (s : State) : (s.tguCycled).lbu = s.lbu := rfl
@[simp] theorem State.tguCycled_deu (s : State) : (s.tguCycled).deu = s.deu := rfl
@[simp] theorem State.tguCycled_ppu (s : State) : (s.tguCycled).ppu = s.ppu := rfl
@[simp] theorem State.tguCycled_lku (s : State) : (s.tguCycled).lku = s.lku := rfl
@[simp] theorem State.tguCycled_tau (s : State) : (s.tguCycled).tau = s.tau := rfl
@[simp] theorem State.tguCycled_drc (s : State) : (s.tguCycled).drc = s.drc := rfl
@[simp] theorem State.tguCycled_lnk (s : State) :
    (s.tguCycled).lnk = (s.notify (tguCycleOut s).news).lnk := rfl
@[simp] theorem State.tguCycled_pfu (s : State) : (s.tguCycled).pfu = s.pfu := rfl
@[simp] theorem State.tguCycled_port (s : State) : (s.tguCycled).port = s.port := rfl
@[simp] theorem State.tguCycled_schedule (s : State) : (s.tguCycled).schedule = s.schedule := rfl
@[simp] theorem State.tguCycled_agenda (s : State) :
    (s.tguCycled).agenda = s.agenda ++ toBlocks [.lbu, .ppu, .lku, .drc] .gauges := rfl
@[simp] theorem State.tguCycled_pending (s : State) : (s.tguCycled).pending = s.pending := rfl

/-! ## lbuTakes -/

@[simp] theorem State.lbuTakes_now (s : State) (b : Lbu) (r : List RecordBody) :
    (s.lbuTakes b r).now = s.now := rfl
@[simp] theorem State.lbuTakes_ratePinHigh (s : State) (b : Lbu) (r : List RecordBody) :
    (s.lbuTakes b r).ratePinHigh = s.ratePinHigh := rfl
@[simp] theorem State.lbuTakes_isu (s : State) (b : Lbu) (r : List RecordBody) :
    (s.lbuTakes b r).isu = s.isu := rfl
@[simp] theorem State.lbuTakes_tgu (s : State) (b : Lbu) (r : List RecordBody) :
    (s.lbuTakes b r).tgu = s.tgu := rfl
@[simp] theorem State.lbuTakes_lbu (s : State) (b : Lbu) (r : List RecordBody) :
    (s.lbuTakes b r).lbu = b := rfl
@[simp] theorem State.lbuTakes_deu (s : State) (b : Lbu) (r : List RecordBody) :
    (s.lbuTakes b r).deu = s.deu := rfl
@[simp] theorem State.lbuTakes_ppu (s : State) (b : Lbu) (r : List RecordBody) :
    (s.lbuTakes b r).ppu = s.ppu := rfl
@[simp] theorem State.lbuTakes_lku (s : State) (b : Lbu) (r : List RecordBody) :
    (s.lbuTakes b r).lku = s.lku := rfl
@[simp] theorem State.lbuTakes_tau (s : State) (b : Lbu) (r : List RecordBody) :
    (s.lbuTakes b r).tau = s.tau := rfl
@[simp] theorem State.lbuTakes_drc (s : State) (b : Lbu) (r : List RecordBody) :
    (s.lbuTakes b r).drc = s.drc := rfl
@[simp] theorem State.lbuTakes_lnk (s : State) (b : Lbu) (r : List RecordBody) :
    (s.lbuTakes b r).lnk = (s.notify (lbuOut s b r).news).lnk := rfl
@[simp] theorem State.lbuTakes_pfu (s : State) (b : Lbu) (r : List RecordBody) :
    (s.lbuTakes b r).pfu = s.pfu := rfl
@[simp] theorem State.lbuTakes_port (s : State) (b : Lbu) (r : List RecordBody) :
    (s.lbuTakes b r).port = s.port := rfl
@[simp] theorem State.lbuTakes_schedule (s : State) (b : Lbu) (r : List RecordBody) :
    (s.lbuTakes b r).schedule = s.schedule := rfl
@[simp] theorem State.lbuTakes_agenda (s : State) (b : Lbu) (r : List RecordBody) :
    (s.lbuTakes b r).agenda = s.agenda ++ (lbuOut s b r).events := rfl
@[simp] theorem State.lbuTakes_pending (s : State) (b : Lbu) (r : List RecordBody) :
    (s.lbuTakes b r).pending = s.pending := rfl

/-! ## deuCommit -/

@[simp] theorem State.deuCommit_now (s : State) (w : DeuWork) : (s.deuCommit w).now = s.now := rfl
@[simp] theorem State.deuCommit_ratePinHigh (s : State) (w : DeuWork) :
    (s.deuCommit w).ratePinHigh = s.ratePinHigh := rfl
@[simp] theorem State.deuCommit_isu (s : State) (w : DeuWork) : (s.deuCommit w).isu = s.isu := rfl
@[simp] theorem State.deuCommit_tgu (s : State) (w : DeuWork) : (s.deuCommit w).tgu = s.tgu := rfl
@[simp] theorem State.deuCommit_lbu (s : State) (w : DeuWork) : (s.deuCommit w).lbu = s.lbu := rfl
@[simp] theorem State.deuCommit_deu (s : State) (w : DeuWork) : (s.deuCommit w).deu = w.deu := rfl
@[simp] theorem State.deuCommit_ppu (s : State) (w : DeuWork) : (s.deuCommit w).ppu = s.ppu := rfl
@[simp] theorem State.deuCommit_lku (s : State) (w : DeuWork) : (s.deuCommit w).lku = s.lku := rfl
@[simp] theorem State.deuCommit_tau (s : State) (w : DeuWork) : (s.deuCommit w).tau = s.tau := rfl
@[simp] theorem State.deuCommit_drc (s : State) (w : DeuWork) : (s.deuCommit w).drc = s.drc := rfl
@[simp] theorem State.deuCommit_lnk (s : State) (w : DeuWork) :
    (s.deuCommit w).lnk = (s.notify (deuOut s.deu w).news).lnk := rfl
@[simp] theorem State.deuCommit_pfu (s : State) (w : DeuWork) : (s.deuCommit w).pfu = s.pfu := rfl
@[simp] theorem State.deuCommit_port (s : State) (w : DeuWork) : (s.deuCommit w).port = s.port := rfl
@[simp] theorem State.deuCommit_schedule (s : State) (w : DeuWork) :
    (s.deuCommit w).schedule = s.schedule := rfl
@[simp] theorem State.deuCommit_agenda (s : State) (w : DeuWork) :
    (s.deuCommit w).agenda = s.agenda ++ (deuOut s.deu w).events := rfl
@[simp] theorem State.deuCommit_pending (s : State) (w : DeuWork) :
    (s.deuCommit w).pending = s.pending := rfl

/-! ## ppuCommit -/

@[simp] theorem State.ppuCommit_now (s : State) (w : PpuWork) : (s.ppuCommit w).now = s.now := rfl
@[simp] theorem State.ppuCommit_ratePinHigh (s : State) (w : PpuWork) :
    (s.ppuCommit w).ratePinHigh = s.ratePinHigh := rfl
@[simp] theorem State.ppuCommit_isu (s : State) (w : PpuWork) : (s.ppuCommit w).isu = s.isu := rfl
@[simp] theorem State.ppuCommit_tgu (s : State) (w : PpuWork) : (s.ppuCommit w).tgu = s.tgu := rfl
@[simp] theorem State.ppuCommit_lbu (s : State) (w : PpuWork) : (s.ppuCommit w).lbu = s.lbu := rfl
@[simp] theorem State.ppuCommit_deu (s : State) (w : PpuWork) : (s.ppuCommit w).deu = s.deu := rfl
@[simp] theorem State.ppuCommit_ppu (s : State) (w : PpuWork) : (s.ppuCommit w).ppu = ppuSettled w := rfl
@[simp] theorem State.ppuCommit_lku (s : State) (w : PpuWork) : (s.ppuCommit w).lku = s.lku := rfl
@[simp] theorem State.ppuCommit_tau (s : State) (w : PpuWork) : (s.ppuCommit w).tau = s.tau := rfl
@[simp] theorem State.ppuCommit_drc (s : State) (w : PpuWork) : (s.ppuCommit w).drc = s.drc := rfl
@[simp] theorem State.ppuCommit_lnk (s : State) (w : PpuWork) :
    (s.ppuCommit w).lnk = (s.notify (ppuOut s.ppu w).news).lnk := rfl
@[simp] theorem State.ppuCommit_pfu (s : State) (w : PpuWork) : (s.ppuCommit w).pfu = s.pfu := rfl
@[simp] theorem State.ppuCommit_port (s : State) (w : PpuWork) : (s.ppuCommit w).port = s.port := rfl
@[simp] theorem State.ppuCommit_schedule (s : State) (w : PpuWork) :
    (s.ppuCommit w).schedule = s.schedule := rfl
@[simp] theorem State.ppuCommit_agenda (s : State) (w : PpuWork) :
    (s.ppuCommit w).agenda = s.agenda ++ (ppuOut s.ppu w).events := rfl
@[simp] theorem State.ppuCommit_pending (s : State) (w : PpuWork) :
    (s.ppuCommit w).pending = s.pending := rfl

/-! ## lkuCommit -/

@[simp] theorem State.lkuCommit_now (s : State) (w : LkuWork) : (s.lkuCommit w).now = s.now := rfl
@[simp] theorem State.lkuCommit_ratePinHigh (s : State) (w : LkuWork) :
    (s.lkuCommit w).ratePinHigh = s.ratePinHigh := rfl
@[simp] theorem State.lkuCommit_isu (s : State) (w : LkuWork) : (s.lkuCommit w).isu = s.isu := rfl
@[simp] theorem State.lkuCommit_tgu (s : State) (w : LkuWork) : (s.lkuCommit w).tgu = s.tgu := rfl
@[simp] theorem State.lkuCommit_lbu (s : State) (w : LkuWork) : (s.lkuCommit w).lbu = s.lbu := rfl
@[simp] theorem State.lkuCommit_deu (s : State) (w : LkuWork) : (s.lkuCommit w).deu = s.deu := rfl
@[simp] theorem State.lkuCommit_ppu (s : State) (w : LkuWork) : (s.lkuCommit w).ppu = s.ppu := rfl
@[simp] theorem State.lkuCommit_lku (s : State) (w : LkuWork) :
    (s.lkuCommit w).lku = lkuSettled s w.lku := rfl
@[simp] theorem State.lkuCommit_tau (s : State) (w : LkuWork) : (s.lkuCommit w).tau = s.tau := rfl
@[simp] theorem State.lkuCommit_drc (s : State) (w : LkuWork) : (s.lkuCommit w).drc = s.drc := rfl
@[simp] theorem State.lkuCommit_lnk (s : State) (w : LkuWork) :
    (s.lkuCommit w).lnk = (s.notify (lkuOut s s.lku (lkuSettled s w.lku) w).news).lnk := rfl
@[simp] theorem State.lkuCommit_pfu (s : State) (w : LkuWork) : (s.lkuCommit w).pfu = s.pfu := rfl
@[simp] theorem State.lkuCommit_port (s : State) (w : LkuWork) : (s.lkuCommit w).port = s.port := rfl
@[simp] theorem State.lkuCommit_schedule (s : State) (w : LkuWork) :
    (s.lkuCommit w).schedule = s.schedule := rfl
@[simp] theorem State.lkuCommit_agenda (s : State) (w : LkuWork) :
    (s.lkuCommit w).agenda = s.agenda ++ (lkuOut s s.lku (lkuSettled s w.lku) w).events := rfl
@[simp] theorem State.lkuCommit_pending (s : State) (w : LkuWork) :
    (s.lkuCommit w).pending = s.pending := rfl

/-! ## tauCommit -/

@[simp] theorem State.tauCommit_now (s : State) (w : TauWork) : (s.tauCommit w).now = s.now := rfl
@[simp] theorem State.tauCommit_ratePinHigh (s : State) (w : TauWork) :
    (s.tauCommit w).ratePinHigh = s.ratePinHigh := rfl
@[simp] theorem State.tauCommit_isu (s : State) (w : TauWork) : (s.tauCommit w).isu = s.isu := rfl
@[simp] theorem State.tauCommit_tgu (s : State) (w : TauWork) : (s.tauCommit w).tgu = s.tgu := rfl
@[simp] theorem State.tauCommit_lbu (s : State) (w : TauWork) : (s.tauCommit w).lbu = s.lbu := rfl
@[simp] theorem State.tauCommit_deu (s : State) (w : TauWork) : (s.tauCommit w).deu = s.deu := rfl
@[simp] theorem State.tauCommit_ppu (s : State) (w : TauWork) : (s.tauCommit w).ppu = s.ppu := rfl
@[simp] theorem State.tauCommit_lku (s : State) (w : TauWork) : (s.tauCommit w).lku = s.lku := rfl
@[simp] theorem State.tauCommit_tau (s : State) (w : TauWork) :
    (s.tauCommit w).tau = tauOutputs w.tau := rfl
@[simp] theorem State.tauCommit_drc (s : State) (w : TauWork) : (s.tauCommit w).drc = s.drc := rfl
@[simp] theorem State.tauCommit_lnk (s : State) (w : TauWork) :
    (s.tauCommit w).lnk = (s.notify (tauOut s.tau w.settled).news).lnk := rfl
@[simp] theorem State.tauCommit_pfu (s : State) (w : TauWork) : (s.tauCommit w).pfu = s.pfu := rfl
@[simp] theorem State.tauCommit_port (s : State) (w : TauWork) : (s.tauCommit w).port = s.port := rfl
@[simp] theorem State.tauCommit_schedule (s : State) (w : TauWork) :
    (s.tauCommit w).schedule = s.schedule := rfl
@[simp] theorem State.tauCommit_agenda (s : State) (w : TauWork) :
    (s.tauCommit w).agenda = s.agenda ++ (tauOut s.tau w.settled).events := rfl
@[simp] theorem State.tauCommit_pending (s : State) (w : TauWork) :
    (s.tauCommit w).pending = s.pending := rfl

/-! ## drcCommit -/

@[simp] theorem State.drcCommit_now (s : State) (w : DrcWork) : (s.drcCommit w).now = s.now := rfl
@[simp] theorem State.drcCommit_ratePinHigh (s : State) (w : DrcWork) :
    (s.drcCommit w).ratePinHigh = s.ratePinHigh := rfl
@[simp] theorem State.drcCommit_isu (s : State) (w : DrcWork) : (s.drcCommit w).isu = s.isu := rfl
@[simp] theorem State.drcCommit_tgu (s : State) (w : DrcWork) : (s.drcCommit w).tgu = s.tgu := rfl
@[simp] theorem State.drcCommit_lbu (s : State) (w : DrcWork) : (s.drcCommit w).lbu = s.lbu := rfl
@[simp] theorem State.drcCommit_deu (s : State) (w : DrcWork) : (s.drcCommit w).deu = s.deu := rfl
@[simp] theorem State.drcCommit_ppu (s : State) (w : DrcWork) : (s.drcCommit w).ppu = s.ppu := rfl
@[simp] theorem State.drcCommit_lku (s : State) (w : DrcWork) : (s.drcCommit w).lku = s.lku := rfl
@[simp] theorem State.drcCommit_tau (s : State) (w : DrcWork) : (s.drcCommit w).tau = s.tau := rfl
@[simp] theorem State.drcCommit_drc (s : State) (w : DrcWork) : (s.drcCommit w).drc = w.drc := rfl
@[simp] theorem State.drcCommit_lnk (s : State) (w : DrcWork) :
    (s.drcCommit w).lnk = ((({ s with drc := w.drc } : State)).notify w.news).lnk := rfl
@[simp] theorem State.drcCommit_pfu (s : State) (w : DrcWork) : (s.drcCommit w).pfu = s.pfu := rfl
@[simp] theorem State.drcCommit_port (s : State) (w : DrcWork) :
    (s.drcCommit w).port = s.port.ask .drc w.ask := rfl
@[simp] theorem State.drcCommit_schedule (s : State) (w : DrcWork) :
    (s.drcCommit w).schedule = s.schedule := rfl
@[simp] theorem State.drcCommit_agenda (s : State) (w : DrcWork) :
    (s.drcCommit w).agenda = s.agenda ++ (drcOut w).events := rfl
@[simp] theorem State.drcCommit_pending (s : State) (w : DrcWork) :
    (s.drcCommit w).pending = s.pending := rfl

/-! ## pfuCommit -/

@[simp] theorem State.pfuCommit_now (s : State) (w : PfuWork) : (s.pfuCommit w).now = s.now := rfl
@[simp] theorem State.pfuCommit_ratePinHigh (s : State) (w : PfuWork) :
    (s.pfuCommit w).ratePinHigh = s.ratePinHigh := rfl
@[simp] theorem State.pfuCommit_isu (s : State) (w : PfuWork) : (s.pfuCommit w).isu = s.isu := rfl
@[simp] theorem State.pfuCommit_tgu (s : State) (w : PfuWork) : (s.pfuCommit w).tgu = s.tgu := rfl
@[simp] theorem State.pfuCommit_lbu (s : State) (w : PfuWork) : (s.pfuCommit w).lbu = s.lbu := rfl
@[simp] theorem State.pfuCommit_deu (s : State) (w : PfuWork) : (s.pfuCommit w).deu = s.deu := rfl
@[simp] theorem State.pfuCommit_ppu (s : State) (w : PfuWork) : (s.pfuCommit w).ppu = s.ppu := rfl
@[simp] theorem State.pfuCommit_lku (s : State) (w : PfuWork) : (s.pfuCommit w).lku = s.lku := rfl
@[simp] theorem State.pfuCommit_tau (s : State) (w : PfuWork) : (s.pfuCommit w).tau = s.tau := rfl
@[simp] theorem State.pfuCommit_drc (s : State) (w : PfuWork) : (s.pfuCommit w).drc = s.drc := rfl
@[simp] theorem State.pfuCommit_lnk (s : State) (w : PfuWork) :
    (s.pfuCommit w).lnk = (s.notify w.news).lnk := rfl
@[simp] theorem State.pfuCommit_pfu (s : State) (w : PfuWork) : (s.pfuCommit w).pfu = w.pfu := rfl
@[simp] theorem State.pfuCommit_port (s : State) (w : PfuWork) :
    (s.pfuCommit w).port = s.port.ask .pfu w.ask := rfl
@[simp] theorem State.pfuCommit_schedule (s : State) (w : PfuWork) :
    (s.pfuCommit w).schedule = s.schedule := rfl
@[simp] theorem State.pfuCommit_agenda (s : State) (w : PfuWork) :
    (s.pfuCommit w).agenda = s.agenda ++ (pfuOut w).events := rfl
@[simp] theorem State.pfuCommit_pending (s : State) (w : PfuWork) :
    (s.pfuCommit w).pending = s.pending := rfl

end Sys2Proof.Machine
end

