-- ==== Sys2Proof/Laws/Settle.lean ====
section
/-! SUPPORT. What the shared operations of a command can do: the port, the notice queue, the chain of
publications, and the shape of a command. -/

namespace Sys2Proof.Machine

/-! ## The serial memory port (R179) -/

/-- A busy port serves nobody. -/
theorem Port.serve_busy {p : Port} {x : Client × PortOp} (h : p.busy = some x) : p.serve = p := by
  simp [Port.serve, h]

/-- A port nobody waits for stays as it is. -/
theorem Port.serve_idle {p : Port} (h1 : p.pfuWaits = none) (h2 : p.drcWaits = none) : p.serve = p := by
  unfold Port.serve
  simp [h1, h2]

/-- Serving leaves the port as it is, or begins the operation that one of the two blocks waited for. -/
theorem Port.serve_cases (p : Port) :
    p.serve = p ∨
    (∃ op, p.busy = none ∧ p.pfuWaits = some op ∧
      p.serve = { p with busy := some (.pfu, op), pfuWaits := none, last := some .pfu }) ∨
    (∃ op, p.busy = none ∧ p.drcWaits = some op ∧
      p.serve = { p with busy := some (.drc, op), drcWaits := none, last := some .drc }) := by
  obtain ⟨busy, pw, dw, last⟩ := p
  cases busy <;> cases pw <;> cases dw <;> simp [Port.serve]
  exact Or.inr (em _).symm

/-- A block that asks for nothing changes nothing. -/
@[simp] theorem Port.ask_none (p : Port) (c : Client) : p.ask c none = p := rfl

/-! ## What a block reads and hands over -/

/-- A role reads NONE where the profile in use assigns no channel to it, UNKNOWN where nothing has been published
under it, and otherwise what was published (R2, R23, R96). -/
theorem State.reading_cases (s : State) (role : Role) :
    (s.assigns role = false ∧ s.reading role = (.none, none)) ∨
    (s.assigns role = true ∧ (∀ c ∈ s.isu.pub.channels, c.role ≠ role) ∧ s.reading role = (.unknown, none)) ∨
    (s.assigns role = true ∧ ∃ c ∈ s.isu.pub.channels, c.role = role ∧
      s.reading role = (c.health, c.value)) := by
  unfold State.reading
  by_cases ha : s.assigns role = true
  · rw [if_pos ha]
    cases hf : s.isu.pub.channels.find? (fun c => c.role = role) with
    | none => exact .inr (.inl ⟨ha, by simpa using hf, rfl⟩)
    | some c =>
      exact .inr (.inr ⟨ha, c, List.mem_of_find?_eq_some hf, by simpa using List.find?_some hf, rfl⟩)
  · exact .inl ⟨by simpa using ha, by rw [if_neg ha]⟩

/-- Putting MAIN's records first loses none and adds none (R92). -/
@[simp] theorem mem_mainFirst (r : RecordBody) (rs : List RecordBody) : r ∈ mainFirst rs ↔ r ∈ rs := by
  by_cases h : r.drive = some .aux <;> simp [mainFirst, h]

/-- Every withdrawal of an event is handed over (R90). -/
@[simp] theorem withdraw_mem_lastingOps (c : AlarmCause) (ops : List (SetOp AlarmCause)) :
    .withdraw c ∈ lastingOps ops ↔ .withdraw c ∈ ops := by
  induction ops with
  | nil => rfl
  | cons op rest ih =>
    cases op with
    | withdraw d => simp [lastingOps, ih]
    | post d => by_cases h : SetOp.withdraw d ∈ rest <;> simp [lastingOps, h, ih]

/-- A post of a cause that the event never withdraws is handed over (R90). -/
theorem post_mem_lastingOps {c : AlarmCause} {ops : List (SetOp AlarmCause)} (h : .withdraw c ∉ ops) :
    .post c ∈ lastingOps ops ↔ .post c ∈ ops := by
  induction ops with
  | nil => rfl
  | cons op rest ih =>
    have ih := ih fun hc => h (.tail _ hc)
    cases op with
    | withdraw d => simp [lastingOps, ih]
    | post d =>
      by_cases hd : SetOp.withdraw d ∈ rest
      · have hne : c ≠ d := fun e => h (e.symm ▸ .tail _ hd)
        simp [lastingOps, hd, ih, hne]
      · simp [lastingOps, hd, ih]

/-- What a cause comes to when posts and withdrawals are taken in their order: in the set after them are the causes
with a post that lasts and those of before that nothing withdraws (R90, R107). -/
theorem cause_mem_alarmsAfter (c : AlarmCause) (ops : List (SetOp AlarmCause)) (alarms : List Alarm) :
    (∃ a ∈ alarmsAfter alarms ops, a.cause = c) ↔
      .post c ∈ lastingOps ops ∨ ((∃ a ∈ alarms, a.cause = c) ∧ .withdraw c ∉ ops) := by
  induction ops generalizing alarms with
  | nil => simp [alarmsAfter, lastingOps]
  | cons op rest ih =>
    refine (ih (alarmOp alarms op)).trans ?_
    cases op with
    | withdraw d =>
      by_cases hc : c = d
      · subst hc
        simp [alarmOp, lastingOps]
      · have : (∃ a ∈ alarmOp alarms (.withdraw d), a.cause = c) ↔ ∃ a ∈ alarms, a.cause = c := by
          simp only [alarmOp, List.mem_filter, bne_iff_ne]
          exact ⟨fun ⟨a, ⟨m, _⟩, e⟩ => ⟨a, m, e⟩, fun ⟨a, m, e⟩ => ⟨a, ⟨m, e ▸ hc⟩, e⟩⟩
        simp [this, lastingOps, hc]
    | post d =>
      have hp : (∃ a ∈ alarmOp alarms (.post d), a.cause = c) ↔ (∃ a ∈ alarms, a.cause = c) ∨ c = d := by
        simp only [alarmOp]
        split
        · rename_i h
          obtain ⟨b, hb, e⟩ : ∃ b ∈ alarms, b.cause = d := by simpa using h
          exact ⟨.inl, fun h => h.elim id fun e' => ⟨b, hb, e.trans e'.symm⟩⟩
        · simp [or_and_right, exists_or, eq_comm]
      rw [hp]
      by_cases hc : c = d
      · subst hc
        by_cases hw : SetOp.withdraw c ∈ rest <;> simp [lastingOps, hw]
      · by_cases hw : SetOp.withdraw d ∈ rest <;> simp [lastingOps, hw, hc]

/-- What the DEU hands over leaves in the alarm cause set, withdrawals taken first, exactly the causes that its posts
and withdrawals leave there in the order the event made them (R90, R107). -/
theorem lastingOps_keeps_order (c : AlarmCause) (ops : List (SetOp AlarmCause)) (alarms : List Alarm) :
    (∃ a ∈ alarmsAfter alarms (withdrawalsFirst (lastingOps ops)), a.cause = c) ↔
      ∃ a ∈ alarmsAfter alarms ops, a.cause = c := by
  have posts : ∀ ps : List (SetOp AlarmCause), (∀ p ∈ ps, p.isPost = true) → lastingOps ps = ps := by
    intro ps hps
    induction ps with
    | nil => rfl
    | cons p rest ih =>
      have ih := ih fun q hq => hps q (.tail _ hq)
      cases p with
      | withdraw d => cases hps _ (.head _)
      | post d =>
        have : SetOp.withdraw d ∉ rest := fun h => by cases hps _ (.tail _ h)
        simp [lastingOps, this, ih]
  have front : ∀ ws ps : List (SetOp AlarmCause), (∀ w ∈ ws, w.isPost = false) →
      lastingOps (ws ++ ps) = ws ++ lastingOps ps := by
    intro ws ps hws
    induction ws with
    | nil => rfl
    | cons w rest ih =>
      cases w with
      | withdraw d => simp [lastingOps, ih fun q hq => hws q (.tail _ hq)]
      | post d => cases hws _ (.head _)
  have first : ∀ l : List (SetOp AlarmCause), lastingOps (withdrawalsFirst l) = withdrawalsFirst l := by
    intro l
    unfold withdrawalsFirst
    rw [front _ _ (by simp), posts _ (by simp)]
  have mem : ∀ (op : SetOp AlarmCause) l, op ∈ withdrawalsFirst l ↔ op ∈ l := by
    intro op l
    cases h : op.isPost <;> simp [withdrawalsFirst, h]
  rw [cause_mem_alarmsAfter, cause_mem_alarmsAfter, first, mem, mem, withdraw_mem_lastingOps]

/-- Where no override ended, entry notices go by entry number (R130). -/
@[simp] theorem noticeOrder_nil (ended ns : List Nat) : noticeOrder ended ns [] = ns := by
  induction ns with
  | nil => rfl
  | cons n rest ih => simp [noticeOrder, ih]

/-- A DRY_RUN watch whose pump does not run is not evaluated (R99, R104). -/
theorem dryRunStep_idle {s : State} {d : Drive} (h : s.pumpRuns d = false) (w : PpuWork) :
    dryRunStep s d w = w := by
  simp [dryRunStep, dryRuns, h]

/-- Nor does its peak move (R99, R104). -/
theorem dryRunPeak_idle {s : State} {d : Drive} (h : s.pumpRuns d = false) (w : PpuWork) :
    dryRunPeak s d w = w := by
  simp [dryRunPeak, dryRuns, h]

/-- A threshold watch whose pump does not run is evaluated only as an OVERHEAT out of CLEAR (R99). -/
theorem thresholdInputs_idle {s : State} {d : Drive} {k : Threshold} (h : s.pumpRuns d = false)
    (hk : k ≠ .overheat) (w : PpuWork) : thresholdInputs s d k w = w := by
  simp [thresholdInputs, watchRuns, h, hk]

/-! ## Notices (R173, R174) -/

/-- A notice handed over is discarded, joins the tail, or is counted lost. -/
theorem Lnk.post_cases (l : Lnk) (time : Nat) (n : News) :
    (l.masked n.kind = true ∧ l.post time n = l) ∨
    (l.masked n.kind = false ∧ l.notices.length < noticeCapacity ∧
      l.post time n =
        { l with notices := l.notices ++ [⟨n.kind, time, n.subject, n.values⟩], attnLow := true }) ∨
    (l.masked n.kind = false ∧ noticeCapacity ≤ l.notices.length ∧
      l.post time n = { l with lost := saturate 65535 (l.lost + 1) }) := by
  unfold Lnk.post
  by_cases h : l.masked n.kind = true
  · simp [h]
  · by_cases hl : l.notices.length < noticeCapacity
    · simp [h, hl]
    · simp [h, hl]; omega

/-- Handing a notice over changes the queue, ATTN# and the lost-notice count alone. -/
theorem Lnk.post_frame (l : Lnk) (time : Nat) (n : News) :
    (l.post time n).rx = l.rx ∧ (l.post time n).gapTimer = l.gapTimer ∧
    (l.post time n).service = l.service ∧ (l.post time n).waiting = l.waiting ∧
    (l.post time n).restart = l.restart ∧ (l.post time n).mask = l.mask ∧
    (l.post time n).faults = l.faults ∧ (l.post time n).baudHigh = l.baudHigh := by
  unfold Lnk.post
  split
  · simp
  · split <;> simp

/-- Handing notices over changes the queue, ATTN# and the lost-notice count alone. -/
theorem Lnk.posts_frame (news : List News) (time : Nat) (l : Lnk) :
    let r := news.foldl (fun l n => l.post time n) l
    r.rx = l.rx ∧ r.gapTimer = l.gapTimer ∧ r.service = l.service ∧ r.waiting = l.waiting ∧
    r.restart = l.restart ∧ r.mask = l.mask ∧ r.faults = l.faults ∧ r.baudHigh = l.baudHigh := by
  induction news generalizing l with
  | nil => simp
  | cons n news ih =>
    have h := Lnk.post_frame l time n
    have := ih (l.post time n)
    simp only [List.foldl_cons]
    simp_all

/-! ## Following publications -/

/-- With nothing waiting there is nothing to follow. -/
theorem settle_quiet {s : State} (h : s.agenda = []) (n : Nat) : settle n s = s := by
  cases n with
  | zero => rw [settle]; cases s; simp_all
  | succ n => rw [settle, h]

/-- One delivery of the chain. -/
theorem settle_step {s : State} {first : Block × Event} {rest : List (Block × Event)}
    (h : s.agenda = first :: rest) (n : Nat) :
    settle (n + 1) s =
      settle n (({ s with
        agenda := (nextDelivery s.schedule first rest).2.2, schedule := s.schedule.drop 1 } :
          State).deliver (nextDelivery s.schedule first rest).1 (nextDelivery s.schedule first rest).2.1) := by
  rw [settle, h]

/-- The delivery taken out of an agenda and what is left make up the agenda. -/
theorem takeFor_perm {b : Block} {e : Event} :
    ∀ {xs left : List (Block × Event)}, takeFor b xs = some (e, left) → ((b, e) :: left).Perm xs
  | [], _, h => by simp [takeFor] at h
  | (c, x) :: rest, left, h => by
    unfold takeFor at h
    split at h
    · rename_i hc
      simp only [Option.some.injEq, Prod.mk.injEq] at h
      obtain ⟨rfl, rfl⟩ := h
      rw [hc]
    · cases ht : takeFor b rest with
      | none => simp [ht] at h
      | some y =>
        obtain ⟨y, ys⟩ := y
        simp only [ht, Option.some.injEq, Prod.mk.injEq] at h
        obtain ⟨rfl, rfl⟩ := h
        exact (List.Perm.swap _ _ _).trans ((takeFor_perm ht).cons _)

/-- Whatever the schedule says, the delivery taken and what is left make up the agenda. -/
theorem nextDelivery_perm (schedule : List Block) (first : Block × Event) (rest : List (Block × Event)) :
    (((nextDelivery schedule first rest).1, (nextDelivery schedule first rest).2.1) ::
      (nextDelivery schedule first rest).2.2).Perm (first :: rest) := by
  unfold nextDelivery
  cases schedule with
  | nil => exact List.Perm.refl _
  | cons b bs =>
    cases h : takeFor b (first :: rest) with
    | none => simp only [h]; exact List.Perm.refl _
    | some x => obtain ⟨e, left⟩ := x; simp only [h]; exact takeFor_perm h

/-- What every delivery of a kind of event keeps, a whole chain of them keeps: `ok` says which events may
wait, and a delivery of one hands over only such. -/
theorem settle_keeps (P : State → Prop) (ok : Block × Event → Prop)
    (forget : ∀ s, P s → P { s with agenda := [] })
    (deliver : ∀ s b e left, (∀ x ∈ left, ok x) → ok (b, e) → P s →
      let t := ({ s with agenda := left, schedule := s.schedule.drop 1 } : State).deliver b e
      P t ∧ ∀ x ∈ t.agenda, ok x)
    (n : Nat) : ∀ s, P s → (∀ x ∈ s.agenda, ok x) → P (settle n s) := by
  induction n with
  | zero => intro s hs _; exact forget s hs
  | succ n ih =>
    intro s hs hok
    cases h : s.agenda with
    | nil => rw [settle_quiet h]; exact hs
    | cons first rest =>
      rw [settle_step h]
      have hp := nextDelivery_perm s.schedule first rest
      have hall : ∀ x ∈ first :: rest, ok x := by rw [← h]; exact hok
      have hmem := fun x hx => hall x ((List.Perm.mem_iff hp).1 hx)
      have hd := deliver s _ _ _ (fun x hx => hmem x (List.mem_cons_of_mem _ hx))
        (hmem _ (List.mem_cons_self ..)) hs
      exact ih _ hd.1 hd.2

/-- What every delivery keeps, the chain keeps. -/
theorem settle_keeps_all (P : State → Prop) (forget : ∀ s, P s → P { s with agenda := [] })
    (deliver : ∀ s b e left, P s →
      P (({ s with agenda := left, schedule := s.schedule.drop 1 } : State).deliver b e))
    (n : Nat) (s : State) (hs : P s) : P (settle n s) :=
  settle_keeps P (fun _ => True) forget
    (fun s b e left _ _ h => ⟨deliver s b e left h, fun _ _ => trivial⟩) n s hs (fun _ _ => trivial)

/-- The chain leaves nothing waiting. -/
theorem settle_agenda (n : Nat) : ∀ s, (settle n s).agenda = [] := by
  induction n with
  | zero => intro s; rfl
  | succ n ih =>
    intro s
    cases h : s.agenda with
    | nil => rw [settle_quiet h]; exact h
    | cons first rest => rw [settle_step h]; exact ih _

/-! ## The shape of a command -/

/-- No restart is due. -/
theorem State.restartIfDue_none {s : State} (h : s.lnk.restart = none) : s.restartIfDue = s := by
  simp [State.restartIfDue, h]

/-- The end of a command: the state itself, or the state after a soft restart (R171). -/
theorem State.restartIfDue_cases (s : State) :
    s.restartIfDue = s ∨
    (s.lnk.restart = some ⟨true, true⟩ ∧
      s.restartIfDue = State.afterReset s.ratePinHigh s.lnk.faults s.schedule s.pending) := by
  unfold State.restartIfDue
  split
  · exact Or.inr ⟨by assumption, rfl⟩
  · exact Or.inl rfl

/-- A command that hands nothing over ends where its effect leaves it. -/
theorem State.finish_quiet {s : State} (h : s.agenda = []) (hr : s.lnk.restart = none) : s.finish = s := by
  rw [State.finish, settle_quiet h, State.restartIfDue_none hr]

/-- Nothing waits after a command. -/
theorem State.finish_agenda (s : State) : s.finish.agenda = [] := by
  rw [State.finish]
  rcases State.restartIfDue_cases (settle Config.settleBound s) with h | ⟨_, h⟩
  · rw [h]; exact settle_agenda _ _
  · rw [h]; rfl

theorem after_eq (dt : Micros) (f : State → State) (s : State) :
    after dt f s = .next (f (s.beginAt (s.now + dt))).finish := rfl

/-- A timer that runs expires at the time it is due. -/
theorem atExpiry_running {t : Timer} {due : Micros} (h : t = .running due) (f : State → State) (s : State) :
    atExpiry t f s = .next (f (s.beginAt (max s.now due))).finish := by
  subst h; rfl

/-- A timer that does not run does not expire. -/
theorem atExpiry_idle {t : Timer} (h : t.isRunning = false) (f : State → State) (s : State) :
    atExpiry t f s = .next s := by
  cases t <;> first | rfl | simp [Timer.isRunning] at h

/-- An expiry leaves the state alone, or is taken at a time no earlier than the last command's. -/
theorem atExpiry_cases (t : Timer) (f : State → State) (s : State) :
    atExpiry t f s = .next s ∨
    ∃ due, t = .running due ∧ atExpiry t f s = .next (f (s.beginAt (max s.now due))).finish := by
  cases t with
  | running due => exact Or.inr ⟨due, rfl, rfl⟩
  | stopped => exact Or.inl rfl
  | suspended left => exact Or.inl rfl

end Sys2Proof.Machine
end

