-- ==== Sys2Proof/Tests/Slice0.lean ====
section
/-! SUPPORT. The model's own tests: the manual's worked examples, one step of each family, and for each statement
with hypotheses a concrete state that meets them. -/

namespace Sys2Proof.Tests

open Sys2Proof.Machine Sys2Proof.Safety

set_option Elab.async false

/-! ## Well-formed commands -/

theorem test_unknown_kind_of_the_table_refused : (Instr.unknownKind 0 1#8 0x10#8 []).wellFormed = false := by
  decide

theorem test_unknown_kind_too_long_refused :
    (Instr.unknownKind 0 1#8 0x77#8 (List.replicate 121 0#8)).wellFormed = false := by decide +kernel

theorem test_unknown_kind_longest_accepted :
    (Instr.unknownKind 0 1#8 0x77#8 (List.replicate 120 0#8)).wellFormed = true := by decide +kernel

theorem test_profile_write_empty_refused : (Instr.profileWrite 0 1#8 0#8 0#16 []).wellFormed = false := by
  decide

theorem test_profile_write_too_long_refused :
    (Instr.profileWrite 0 1#8 0#8 0#16 (List.replicate 113 0#8)).wellFormed = false := by decide +kernel

/-- The premise of `Framed.Statement` is met at both ends of a PROFILE_WRITE's range. -/
theorem test_profile_write_ends_accepted :
    (Instr.profileWrite 0 1#8 0#8 0#16 [1#8]).wellFormed = true ∧
    (Instr.profileWrite 0 1#8 0#8 0#16 (List.replicate 112 0#8)).wellFormed = true := by decide +kernel

/-! ## The manual's worked numbers -/

/-- R187. -/
theorem test_crc_of_the_nine_bytes :
    crc16 [0x31#8, 0x32#8, 0x33#8, 0x34#8, 0x35#8, 0x36#8, 0x37#8, 0x38#8, 0x39#8] = 0x29B1#16 := by decide +kernel

/-- 5.2. -/
theorem test_rounding :
    divNearest 1386 10 = 139 ∧ divNearest 5 2 = 3 ∧ divNearest (-5) 2 = -3 ∧ divTrunc 29 10 = 2 ∧
    divTrunc (-29) 10 = -2 := by decide

/-- 1.6.1: AIN6 of the example. -/
def sensor : Entry := ⟨.dischargePressure .main, 410, 3686, 0, 2000, false⟩

theorem test_sensor_converts : convert sensor 2048 = 1000 ∧ convert sensor 1229 = 500 := by decide

theorem test_sensor_holds :
    evalChannel sensor 12 ⟨.good, some 1000, 0, .no⟩ = (⟨.held, some 1000, 1, .no⟩, some 1000) ∧
    evalChannel sensor 12 ⟨.held, some 1000, 50, .no⟩ = (⟨.unknown, some 1000, 51, .no⟩, some 1000) := by decide

theorem test_sensor_premises :
    (∀ _ : Nat, goodCode sensor 12 = false) ∧ goodCode sensor 40 = true ∧
    goodCode sensor 4055 = true ∧ goodCode sensor 39 = false ∧ goodCode sensor 4056 = false ∧
    sensor.role ≠ .unused ∧ roleRange sensor.role = some (-100, 2500) ∧ sensor.loCode < sensor.hiCode ∧
    (-100 : Int) ≤ sensor.loValue ∧ sensor.hiValue ≤ 2500 ∧
    (∃ ch : Channel, ch.lastGood = none) ∧ (∃ ch : Channel, ch.lastGood = some 5 ∧ ch.health = .good) ∧
    (∃ ch : Channel, ch.lastGood = some 5 ∧ ch.health = .held ∧ ch.hold < 50) ∧
    (∃ ch : Channel, ch.lastGood = some 5 ∧ ch.health = .held ∧ ch.hold = 50) ∧
    (∃ ch : Channel, ch.lastGood = some 5 ∧ ch.health = .unknown) := by
  exact ⟨fun _ => by decide, by decide, by decide, by decide, by decide, by decide, by decide, by decide,
    by decide, by decide, ⟨⟨.unknown, none, 51, .no⟩, rfl⟩, ⟨⟨.good, some 5, 0, .no⟩, rfl, rfl⟩,
    ⟨⟨.held, some 5, 49, .no⟩, rfl, rfl, by decide⟩, ⟨⟨.held, some 5, 50, .no⟩, rfl, rfl, rfl⟩,
    ⟨⟨.unknown, some 5, 51, .no⟩, rfl, rfl⟩⟩

theorem test_rounding_premises : (0 : Int) < 2 ∧ 2 * ((5 : Int) - 2 * 2) + 0 = 2 ∧ (0 : Int) ≤ 5 := by decide

/-! ## A configured part at rest -/

def tank : TankEntry where
  enabled := true
  probes := [⟨900, 0, 0, 2000⟩]
  outletX := 1100
  outletY := 0
  outletZ := 0
  minSubmergence := 40
  strap := [⟨0, 0⟩, ⟨100, 180⟩, ⟨600, 1240⟩]
  b1 := 100
  b2 := 400
  b3 := 700
  b4 := 1000
  hysteresis := 50
  settleS := 5
  spreadLimit := 100

def noTank : TankEntry := { tank with enabled := false }

/-- Slot 2: a HARD road-gear lockout on the hydrant valve. Slot 5: a CONFIRM one that guards MAIN. -/
def lockouts : List LockoutEntry :=
  List.replicate 2 .notInUse ++ [⟨true, .roadGear, .hard, true, [⟨.hydrantOpen, false⟩]⟩] ++
  List.replicate 2 .notInUse ++ [⟨true, .mainEngage, .confirm, false, [⟨.hydrantOpen, false⟩]⟩] ++
  List.replicate 10 .notInUse

def profile : Profile where
  name := List.replicate 16 0x41#8
  version := 17
  entries := [⟨.probe .t0 0, 0, 4000, 0, 4000, false⟩, ⟨.intakePressure .main, 0, 4000, -100, 2500, false⟩] ++
    List.replicate 13 .unusedEntry
  pulses := ⟨⟨500, 120, 8000⟩, ⟨500, 4, 8000⟩, ⟨500, 4, 8000⟩, ⟨2000, 1, 8000⟩⟩
  stillMs := 2000
  tanks := ⟨tank, noTank, noTank, noTank⟩
  refill := ⟨true, .main, 100, 20, 50⟩
  drives := ⟨800, 10, 4, 20, ⟨some 1000, some 800⟩, 160, 15⟩
  pumps := ⟨⟨.t0, 60, 70, 1700, -60, 10⟩, ⟨.t0, 60, 70, 1700, -60, 10⟩⟩
  lockouts := lockouts
  authority := ⟨3, 5, 10⟩

def levels (on : List Nat) : List PubDiscrete := (List.range 12).map fun n => ⟨on.contains n, false⟩

def pubChannels : List PubChannel :=
  [⟨.probe .t0 0, 300, some 300, .good⟩, ⟨.intakePressure .main, 500, some 225, .good⟩] ++
  List.replicate 13 ⟨.unused, 0, none, .unknown⟩

def idlePulses : PerPulse PubPulse :=
  let stopped : PubPulse := ⟨.stopped, none, some 0⟩
  ⟨⟨.running, some 714, some 700⟩, stopped, stopped, stopped⟩

/-- CONFIGURED, adopted, both drives DISENGAGED, the split in ROAD, the engine at 700 rpm, parked and still. -/
def ready : State := { State.reset with
  now := 5000000
  isu := { Isu.reset with
    scanTimer := .running 5010000, entries := profile.entries, roadStill := true, stillTimer := .stopped
    channels := List.replicate 15 ⟨.good, some 225, 0, .no⟩, scanned := true
    pub := { Isu.reset.pub with
      channels := pubChannels, pulses := idlePulses, roadStill := true, split := .road
      discretes := levels [0, 1, 2] } }
  tgu := { Tgu.reset with gaugeTimer := .running 5050000 }
  deu := { Deu.reset with adopted := true }
  lku := { Lku.reset with
    mainGear := false, startHold := false, table := lockouts, records := List.replicate 16 .inactive
    do3 := false }
  drc := { Drc.reset with
    state := .running, head := some 6, nextSeq := some 7, oldest := some 1 }
  pfu := { Pfu.reset with conf := .configured, inUse := some profile, task := .idle, supply := .normal }
  port := ⟨none, none, none, some .drc⟩ }

/-- The state a command answers. -/
def ran (c : Instr) (s : State) : State :=
  match exec c s with
  | .next t => t
  | _ => s

/-- The last reply formed. -/
def reply (s : State) : List Byte := ((s.lnk.service.bind (·.reply)).getD []).drop 4 |>.dropLast.dropLast

/-- `SlotLent` for one drive. -/
abbrev LentTo (s : State) (d : Drive) : Prop :=
  (holdsSlot (s.deu.drives.get d) = true →
    s.deu.holder = some d ∧ (s.deu.drives.get d).pendingRelease = .none) ∧
  (d ∈ s.deu.waiting ↔
    (s.deu.drives.get d).state = .preparing ∨ (s.deu.drives.get d).pendingRelease ≠ .none) ∧
  ((s.deu.drives.get d).pendingRelease ≠ .none →
    (s.deu.drives.get d).state.turning = true ∨ (s.deu.drives.get d).state = .faulted) ∧
  (s.deu.adopted = false → (s.deu.drives.get d).state = .disengaged) ∧
  ((s.deu.drives.get d).seqPurpose = some .restore →
    (s.deu.drives.get d).state = .faulted ∧ (s.deu.drives.get d).phase = .restore)

theorem slotLent_of {s : State} (h : s.deu.waiting.Nodup ∧ LentTo s .main ∧ LentTo s .aux) : SlotLent s :=
  ⟨h.1, fun d => by cases d; exact h.2.1; exact h.2.2⟩

/-! ## The queue, every command and the laws -/

/-- Reset with a gauge cycle waiting. -/
def queued : State := { State.reset with pending := [.gaugeCycle] }

theorem test_step_takes_the_front : queued.pending = .gaugeCycle :: [] ∧ State.reset.pending = [] := by
  decide +kernel

theorem test_every_command_premises :
    queued.agenda = [] ∧ isReset .gaugeCycle = false ∧ queued.lnk.restart = none := by decide +kernel

/-- The premises of every law a step keeps, together, and a step to keep them in. -/
theorem test_laws_premises :
    Lawful queued ∧ SlotLent queued ∧ SetsDistinct queued ∧ ProfileSound queued ∧
    ∃ t, step queued = .next t := by
  refine ⟨⟨by decide, by decide, by decide, by decide, by decide, by decide, ?_, by decide⟩,
    slotLent_of (by decide +kernel), ⟨by decide, by decide⟩, ⟨?_, ?_⟩, _, rfl⟩
  · exact ⟨rfl, fun p h => nomatch h⟩
  · exact fun p h => nomatch h
  · exact fun page again h => nomatch h

theorem test_accumulators_premises :
    RecorderBounded ready ∧ isReset .gaugeCycle = false ∧ ready.lnk.restart = none ∧
    ∃ t, exec .gaugeCycle ready = .next t := by
  refine ⟨by decide, rfl, rfl, _, rfl⟩

theorem test_block_expiry_premises :
    isBlockExpiry .syncTimerExpiry = true ∧ ready.lnk.restart = none ∧
    ∃ t, exec .syncTimerExpiry ready = .next t := ⟨rfl, rfl, _, rfl⟩

/-- A request in service, with and without another waiting, and a restart pending. -/
def served (waiting : Option Frame) (restart : Option RestartWait) (s : State) : State :=
  { s with lnk := { s.lnk with
    service := some ⟨0x28#8, 9#8, none⟩, waiting := waiting, restart := restart } }

theorem test_request_waits_premises :
    requestFrame (.getStatus 5 1#8) = some (5, ⟨0x01#8, 1#8, []⟩) ∧
    (served none none ready).lnk.service ≠ none ∧ (served none none ready).lnk.restart ≠ some ⟨true, true⟩ ∧
    (served none none ready).lnk.waiting = none ∧
    (served (some ⟨1#8, 2#8, []⟩) (some ⟨false, true⟩) ready).lnk.restart ≠ some ⟨true, true⟩ ∧
    (served (some ⟨1#8, 2#8, []⟩) (some ⟨false, true⟩) ready).lnk.waiting ≠ none := by decide +kernel

theorem test_second_request_overruns :
    (ran (.getStatus 5 1#8) (served (some ⟨1#8, 2#8, []⟩) none ready)).lnk.faults.overrun = 1 := by
  decide +kernel

/-! ## Inputs -/

def withPulse (p : PulseIn) (r : PulseRec) (s : State) : State :=
  { s with isu := { s.isu with pulses := s.isu.pulses.set p r } }

/-- ROAD after its first pulse, at 5,000,000 µs. -/
def creeping : State := withPulse .road ⟨.creeping, some 5000000, none, .running 7000000⟩ ready

theorem test_pulse_premises :
    ready.lnk.restart = none ∧ (ready.isu.pulses.get .road).state = .stopped ∧
    creeping.lnk.restart = none ∧ (creeping.isu.pulses.get .road).state ≠ .stopped ∧
    (creeping.isu.pulses.get .road).last = some 5000000 ∧ 5000000 < creeping.now + 1 := by decide +kernel

/-- 1.6.2: the pulse 180 ms after the first. -/
theorem test_second_road_pulse :
    (ran (.pulse 180000 .road) creeping).isu.pulses.road =
      ⟨.running, some 5180000, some 180000, .running (5180000 + 450000)⟩ ∧
    (ran (.pulse 180000 .road) creeping).isu.roadStill = false := by decide +kernel

/-- ROAD STOPPED with its still timer running. -/
def stopping : State := { ready with isu := { ready.isu with
  stillTimer := .running 6000000, roadStill := false } }

theorem test_hold_and_still_premises :
    creeping.lnk.restart = none ∧ (creeping.isu.pulses.get .road).hold = .running 7000000 ∧
    stopping.lnk.restart = none ∧ stopping.isu.stillTimer = .running 6000000 ∧
    stopping.isu.pulses.road.state = .stopped := by decide +kernel

theorem test_still_timer_makes_road_still : (ran .stillTimerExpiry stopping).isu.roadStill = true := by
  decide +kernel

theorem test_hold_timer_starts_the_still_timer :
    (ran (.holdTimerExpiry .road) creeping).isu.stillTimer = .running 9000000 := by decide +kernel

theorem test_scan_premises :
    ready.isu.scanTimer = .running 5010000 ∧ ready.lnk.restart = none ∧ ready.isu.entries.length = 15 ∧
    ready.isu.channels.length = 15 ∧ ready.isu.debounce.length = 12 ∧
    ready.isu.entries[14]? = some .unusedEntry ∧
    ready.isu.channels[14]? = some ⟨.good, some 225, 0, .no⟩ ∧
    ready.isu.debounce[11]? = some ⟨false, 0⟩ := by decide +kernel

def scanOf (probe supply : BitVec 12) (samples : BitVec 12) : Instr :=
  .scan (Vector.ofFn fun i => if i.val = 0 then probe else if i.val = 15 then supply else 500#12) samples

theorem test_first_scan_takes_levels_directly :
    ((ran (scanOf 300#12 2540#12 0b100#12) State.reset).isu.pub.split,
     (ran (scanOf 300#12 2540#12 0b100#12) State.reset).isu.pub.supplyMv,
     (ran (scanOf 300#12 2540#12 0b100#12) State.reset).isu.pub.supplyHealth,
     (ran (scanOf 300#12 2540#12 0b100#12) State.reset).isu.pub.discretes[2]?) =
    (.road, 12402, .good, some ⟨true, false⟩) := by decide +kernel

theorem test_published_speed_premises :
    (⟨.stopped, none, none, .stopped⟩ : PulseRec).state ≠ .running ∧
    (⟨.running, some 9, some 625, .stopped⟩ : PulseRec).state = .running ∧
    (some profile : Option Profile) = some profile := by decide +kernel

/-- 1.6.2 and 1.6.3. -/
theorem test_published_speeds :
    speedOf (some profile) .road ⟨.running, some 9, some 180000, .stopped⟩ = some 25 ∧
    speedOf (some profile) .engine ⟨.running, some 9, some 624, .stopped⟩ = some 801 ∧
    speedOf (some profile) .engine ⟨.running, some 9, some 626, .stopped⟩ = some 799 := by decide +kernel

/-! ## Gauging -/

theorem test_combination_premises :
    let wet : Probe := ⟨.wet, 0, 300⟩
    let dry : Probe := ⟨.dry, 0, 0⟩
    let full : Probe := ⟨.saturated, 0, 2000⟩
    let out : Probe := ⟨.excluded, 0, 0⟩
    (0 : Int) ≤ 100 ∧ (∃ p ∈ [wet, out], p.status = .wet) ∧
    (∃ p ∈ [wet, out], p.status = .excluded ∨ p.status = .saturated) ∧
    (∀ p ∈ [dry, full], p.status ≠ .wet) ∧ (∃ p ∈ [dry, full], p.status = .dry) ∧
    (∀ p ∈ [full, out], p.status ≠ .wet ∧ p.status ≠ .dry) ∧ (∃ p ∈ [full, out], p.status = .saturated) ∧
    (∀ p ∈ [out], p.status ≠ .wet ∧ p.status ≠ .dry ∧ p.status ≠ .saturated) := by decide

/-- 2.12.3: cases a to e and g of four probes at z = 0 with the limit 80. -/
theorem test_four_probes_combine :
    let wet (h : Int) : Probe := ⟨.wet, 0, h⟩
    let out : Probe := ⟨.excluded, 0, 0⟩
    combine 80 ([402, 398, 405, 401].map wet) = some ⟨402, .good, false⟩ ∧
    combine 80 ([402, 398, 515, 401].map wet) = some ⟨402, .degraded, false⟩ ∧
    combine 80 [wet 402, out, wet 515, wet 401] = some ⟨402, .degraded, false⟩ ∧
    combine 80 [wet 402, out, wet 515, out] = some ⟨402, .degraded, false⟩ ∧
    combine 80 (List.replicate 4 ⟨.dry, 0, 0⟩) = some ⟨0, .good, false⟩ ∧
    combine 80 (List.replicate 4 ⟨.saturated, 0, 1500⟩) = some ⟨1500, .degraded, true⟩ := by decide +kernel

/-- R26 and R27: the spread at the limit, and the grade of the DRY form. -/
theorem test_combination_grades :
    let wet (h : Int) : Probe := ⟨.wet, 0, h⟩
    let out : Probe := ⟨.excluded, 0, 0⟩
    combine 100 [wet 400, wet 300] = some ⟨350, .good, false⟩ ∧
    combine 100 [wet 401, wet 300] = some ⟨300, .degraded, false⟩ ∧
    combine 100 [⟨.dry, 30, 0⟩] = some ⟨0, .degraded, false⟩ ∧
    combine 100 [⟨.dry, 0, 0⟩, out] = some ⟨0, .degraded, false⟩ := by decide +kernel

/-- The probe of T0 not known, so that the tank has no usable probe. -/
def blind : State := { ready with isu := { ready.isu with pub := { ready.isu.pub with
  channels := ⟨.probe .t0 0, 12, some 300, .unknown⟩ :: ready.isu.pub.channels.drop 1 } } }

/-- R2, R23, R96: what was published last under a role the profile assigns, and NONE for one it does not. -/
theorem test_published_values_last_until_the_next_scan :
    let reseeded : State := { ready with isu := { ready.isu with
      channels := ready.isu.channels.map reseedChannel } }
    reseeded.reading (.probe .t0 0) = (.good, some 300) ∧ ready.reading .pitch = (.none, none) ∧
    ({ State.reset with pfu := ready.pfu } : State).reading (.probe .t0 0) = (.unknown, none) := by
  decide +kernel

theorem test_gauge_premises :
    ready.tgu.gaugeTimer = .running 5050000 ∧ ready.lnk.restart = none ∧ ready.pfu.inUse ≠ none ∧
    State.reset.tgu.gaugeTimer = .running 50000 ∧ State.reset.pfu.inUse = none ∧
    ready.tankEntry .t1 = none ∧ ready.tankEntry .t0 = some tank ∧
    (combine tank.spreadLimit (fittedProbes ready .t0 tank (readTilt ready))).isSome = true ∧
    blind.tankEntry .t0 = some tank ∧
    combine tank.spreadLimit (fittedProbes blind .t0 tank (readTilt blind)) = none := by decide +kernel

theorem test_gauge_cycle_reads_the_tank :
    ((ran .gaugeCycle ready).tgu.gauges.t0.v, (ran .gaugeCycle ready).tgu.gauges.t0.u,
     (ran .gaugeCycle ready).lbu.bands.t0.band) = (some 604, some 532, .low) := by decide +kernel

theorem test_strapping_premises :
    (tank.strap.map (·.height)).Pairwise (· < ·) ∧ (tank.strap.map (·.volume)).Pairwise (· ≤ ·) ∧
    (∃ p rest, tank.strap = p :: rest ∧ p.height = 0 ∧ 0 ≤ p.volume) ∧
    (∀ f, (TankKeep.fresh).f = some f → 0 ≤ f ∧ f ≤ tank.lastPoint.height + 500) ∧
    tank.lastPoint.height ≤ 600 := by
  exact ⟨by decide, by decide, ⟨_, _, rfl, rfl, by decide⟩, fun f h => (nomatch h), by decide⟩

theorem test_time_to_empty_premises : (0 : Int) ≤ 10 ∧ (0 : Int) ≤ 0 ∧ (-7 : Int) < 0 ∧ (0 : Int) = 0 := by decide

theorem test_filter_premises : ((1 : Int) = 1 ∨ (1 : Int) = 8) ∧ ((8 : Int) = 1 ∨ (8 : Int) = 8) := by decide

theorem test_filter_steps :
    filterStep 1 600 616 = 601 ∧ filterStep 1 600 605 = 601 ∧ filterStep 8 600 605 = 602 ∧
    filterStep 16 600 605 = 605 := by decide

theorem test_time_to_empty :
    timeToEmpty (some (-100)) 0 = .seconds 0 ∧ timeToEmpty (some (-1)) 100 = .seconds 5999 ∧
    timeToEmpty (some (-7)) 10 = .seconds 85 ∧ timeToEmpty (some 0) 10 = .notDraining := by decide

/-! ## Bands and the refill valve -/

/-- A gauge record with a usable volume. -/
def gauged (q : Quality) (u : Int) : GaugeRec :=
  { GaugeRec.notComputed with enabled := true, quality := q, u := some u, rate := some 0 }

theorem test_band_premises :
    (gauged .good 99).u = some 99 ∧ (gauged .unknown 99).quality = .unknown ∧
    (gauged .good 99).quality ≠ .unknown ∧ BandRec.lost.band = .unknown ∧
    (⟨.reserve, .fall, 1, .falling⟩ : BandRec).band ≠ .unknown ∧
    (99 : Int) < tank.b1 ∧ ¬ (100 : Int) < tank.b1 ∧ tank.b2 + tank.hysteresis ≤ 450 ∧
    mayRise (gauged .good 450).rate true = true ∧ ¬ tank.b2 + tank.hysteresis ≤ 449 := by decide

/-- R49: a count of 8 under MOVING meets the limit of a GOOD publication, and a MOVING one counts on; a rise of a RESERVE
tank moves at its second publication, and one that meets neither condition clears the candidate. -/
theorem test_band_counts :
    bandStep (some tank) true (gauged .good 399) ⟨.low, .fall, 8, .initial⟩ = ⟨.reserve, .none, 0, .falling⟩ ∧
    bandStep (some tank) true (gauged .moving 399) ⟨.low, .fall, 8, .initial⟩ = ⟨.low, .fall, 9, .initial⟩ ∧
    bandStep (some tank) true (gauged .good 450) ⟨.reserve, .rise, 1, .initial⟩ = ⟨.low, .none, 0, .rising⟩ ∧
    bandStep (some tank) true (gauged .good 449) ⟨.reserve, .rise, 1, .initial⟩ = ⟨.reserve, .none, 0, .initial⟩ := by
  decide

theorem test_band_boundaries :
    (bandStep (some tank) true (gauged .good 99) .lost).band = .empty ∧
    (bandStep (some tank) true (gauged .good 100) .lost).band = .reserve ∧
    bandStep (some tank) true (gauged .good 99) ⟨.reserve, .fall, 1, .initial⟩ = ⟨.empty, .none, 0, .falling⟩ ∧
    (bandStep (some tank) true (gauged .good 149) ⟨.empty, .none, 0, .initial⟩).candidate = .none ∧
    (bandStep (some tank) true (gauged .good 150) ⟨.empty, .none, 0, .initial⟩).candidate = .rise := by decide

/-- The hydrant open with pressure, T0 LOW, and the valve as given. -/
def filling (v : Valve) : State := { ready with
  isu := { ready.isu with pub := { ready.isu.pub with discretes := levels [0, 1, 2, 8] } }
  lbu := ⟨⟨⟨.low, .none, 0, .initial⟩, .lost, .lost, .lost⟩, v⟩ }

def openValveAt : Valve := ⟨.opened, some .opened, true, .stopped, .running 6000000, .running 6000000⟩

def waitingValve : Valve := ⟨.waiting, some .full, false, .running 6000000, .stopped, .stopped⟩

def closedValve : Valve := ⟨.closed, some .gapEnded, false, .running 6000000, .stopped, .stopped⟩

def faultedValve : Valve := ⟨.faulted, some .noRise, false, .stopped, .stopped, .stopped⟩

theorem test_fill_premises :
    (filling openValveAt).lbu.valve.state = .opened ∧ (filling openValveAt).lnk.restart = none ∧
    (filling openValveAt).lbu.valve.lowPressure = .running 6000000 ∧
    (filling openValveAt).lbu.valve.noRise = .running 6000000 ∧
    (filling waitingValve).lbu.valve.reclose = .running 6000000 ∧
    (filling waitingValve).lbu.valve.state = .waiting ∧
    (filling closedValve).lbu.valve.reclose = .running 6000000 ∧
    (filling closedValve).lbu.valve.state = .closed := by decide +kernel

theorem test_fill_expiries :
    (ran .lowPressureTimerExpiry (filling openValveAt)).lbu.valve.state = .waiting ∧
    (ran .noRiseTimerExpiry (filling openValveAt)).ppu.do9 = true ∧
    (ran .recloseTimerExpiry (filling waitingValve)).lbu.valve =
      ⟨.opened, some .opened, true, .stopped, .stopped, .running 26000000⟩ := by decide +kernel

/-- An event that opens the valve, and one that leaves it OPEN. -/
theorem test_refill_premises :
    let closed := filling { closedValve with reclose := .stopped }
    let opened := filling openValveAt
    closed.lbu.valve.state ≠ .opened ∧ (closed.lbuEvent .inputs).lbu.valve.state = .opened ∧
    (opened.lbuEvent .inputs).lbu.valve.state = .opened ∧
    (opened.lbuEvent (.lockouts [.roadGear, .tankFill])).lbu.valve.state = .opened ∧
    .tankFill ∈ [Target.roadGear, .tankFill] := by decide +kernel

theorem test_clear_fill_fault_premises :
    LinkFree (filling faultedValve) ∧ (filling faultedValve).lbu.valve.state = .faulted ∧
    LinkFree ready ∧ ready.lbu.valve.state ≠ .faulted := by decide +kernel

theorem test_clear_fill_fault :
    reply (ran (.clearFillFault 0 1#8) (filling { faultedValve with reclose := .running 9000000 })) = [0#8] ∧
    reply (ran (.clearFillFault 0 1#8) ready) = [2#8, 1#8] := by decide +kernel

/-! ## Drives -/

/-- The part with the drive records, the slot's holder and the waiting list given. -/
def driving (main aux : DriveRec) (holder : Option Drive) (waiting : List Drive) (s : State) : State :=
  { s with deu := deuOutputs ⟨⟨main, aux⟩, holder, waiting, true, false, false, false⟩ }

def seqRec (st : DriveState) (p : SeqPurpose) : DriveRec :=
  { DriveRec.reset with state := st, phase := .driving, seqPurpose := some p, seq := .running 6000000 }

def shifting : State := driving (seqRec .shifting .confirm) .reset (some .main) [] ready

def spent : State :=
  driving { seqRec .shifting .confirm with retryUsed := true } .reset (some .main) [] ready

def offTime : State :=
  driving { seqRec .shifting .retryOff with phase := .off, retryUsed := true } .reset (some .main) [] ready

def auxReleasing : State := driving .reset (seqRec .releasing .confirm) (some .aux) [] ready

theorem test_confirm_and_retry_premises :
    (SlotLent shifting ∧ SlotLent spent ∧ SlotLent offTime ∧ SlotLent auxReleasing) ∧
    shifting.deu.drives.main.state = .shifting ∧ shifting.deu.drives.main.seq = .running 6000000 ∧
    shifting.deu.drives.main.seqPurpose = some .confirm ∧ spent.deu.drives.main.seq = .running 6000000 ∧
    spent.deu.drives.main.seqPurpose = some .confirm ∧ offTime.deu.drives.main.seq = .running 6000000 ∧
    offTime.deu.drives.main.seqPurpose = some .retryOff ∧ auxReleasing.deu.drives.aux.state = .releasing ∧
    auxReleasing.deu.drives.aux.seqPurpose = some .confirm := by
  refine ⟨⟨slotLent_of ?_, slotLent_of ?_, slotLent_of ?_, slotLent_of ?_⟩, ?_⟩ <;> decide +kernel

theorem test_confirm_expiry_puts_the_solenoid_off :
    ((ran (.confirmTimerExpiry .main) shifting).deu.do0, (ran (.confirmTimerExpiry .main) shifting).deu.holder,
     (ran (.confirmTimerExpiry .main) shifting).deu.drives.main.seq) =
      (false, some .main, .running 6500000) := by decide +kernel

theorem test_second_confirm_expiry_drives_back :
    ((ran (.confirmTimerExpiry .main) spent).deu.do1, (ran (.confirmTimerExpiry .main) spent).ppu.do9,
     (ran (.confirmTimerExpiry .main) spent).deu.drives.main.fault) = (true, true, some .noConfirm) := by
  decide +kernel

theorem test_retry_off_expiry_drives_again : (ran (.retryOffExpiry .main) offTime).deu.do0 = true := by
  decide +kernel

def preparing : State := driving (seqRec .preparing .permissive) .reset none [.main]
  { ready with pfu := { ready.pfu with supply := .droop } }

def restoring : State :=
  driving { seqRec .faulted .restore with phase := .restore, fault := some .noConfirm } .reset (some .main) []
    ready

def idleWait : State :=
  driving { seqRec .engaged .idle with phase := .none, pendingRelease := .idleWait } .reset none [.main] ready

theorem test_permissive_restore_idle_premises :
    (SlotLent preparing ∧ SlotLent restoring ∧ SlotLent idleWait) ∧
    deuOutputs preparing.deu = preparing.deu ∧ deuOutputs restoring.deu = restoring.deu ∧
    deuOutputs idleWait.deu = idleWait.deu ∧
    preparing.deu.drives.main.state = .preparing ∧ preparing.deu.drives.main.seqPurpose = some .permissive ∧
    preparing.deu.drives.main.seq = .running 6000000 ∧
    restoring.deu.drives.main.state = .faulted ∧ restoring.deu.drives.main.phase = .restore ∧
    restoring.deu.drives.main.seqPurpose = some .restore ∧
    restoring.deu.drives.main.seq = .running 6000000 ∧
    idleWait.deu.drives.main.pendingRelease = .idleWait ∧
    idleWait.deu.drives.main.seqPurpose = some .idle ∧ idleWait.deu.drives.main.seq = .running 6000000 := by
  refine ⟨⟨slotLent_of ?_, slotLent_of ?_, slotLent_of ?_⟩, ?_⟩ <;> decide +kernel

theorem test_permissive_restore_idle_expiries :
    (ran (.permissiveTimerExpiry .main) preparing).deu.drives.main.state = .disengaged ∧
    (ran .restoreTimerExpiry restoring).deu.do1 = false ∧
    (ran (.idleTimerExpiry .main) idleWait).deu.drives.main.fault = some .noIdle := by decide +kernel

/-- AUX ROLLING with every monitor timer running, and no overspeed posted. -/
def rolling : State :=
  driving .reset { DriveRec.reset with
    state := .rolling, position := .running 6000000, slip := .running 6000000, stall := .running 6000000
    overspeed := .running 6000000 } none [] ready

theorem test_monitor_premises :
    SlotLent rolling ∧ deuOutputs rolling.deu = rolling.deu ∧ rolling.deu.drives.aux.state.turning = true ∧
    rolling.deu.drives.aux.position = .running 6000000 ∧ rolling.deu.drives.aux.slip = .running 6000000 ∧
    rolling.deu.drives.aux.stall = .running 6000000 ∧ rolling.deu.drives.aux.overspeed = .running 6000000 ∧
    rolling.deu.drives.aux.state = .rolling ∧ rolling.deu.drives.aux.overspeedPosted = false ∧
    rolling.deu.drives.aux.pendingRelease = .none :=
  ⟨slotLent_of (by decide +kernel), by decide +kernel⟩

theorem test_monitor_expiries :
    ((ran (.positionTimerExpiry .aux) rolling).deu.drives.aux.fault,
     (ran (.slipTimerExpiry .aux) rolling).deu.drives.aux.fault,
     (ran (.stallTimerExpiry .aux) rolling).deu.do2) = (some .positionLost, some .slip, true) := by
  decide +kernel

/-- AUX ROLLING with a release that waits for the slot, its select input deasserted. -/
def rollingAway : State :=
  driving .reset { DriveRec.reset with
    state := .rolling, releaseCut := true, pendingRelease := .slotWait, overspeed := .running 6000000 }
    none [.aux] { ready with isu := { ready.isu with
      roadStill := false, pub := { ready.isu.pub with roadStill := false } } }

/-- The second outcome of OverspeedExpiryPosts: the slot is granted at the expiry. -/
theorem test_overspeed_expiry_with_the_slot_granted :
    SlotLent rollingAway ∧ rollingAway.deu.drives.aux.overspeed = .running 6000000 ∧
    rollingAway.deu.drives.aux.state = .rolling ∧ rollingAway.deu.drives.aux.overspeedPosted = false ∧
    (ran .overspeedTimerExpiry rollingAway).deu.drives.aux.state = .releasing ∧
    (ran .overspeedTimerExpiry rollingAway).ppu.alarms = [] ∧
    .rollOverspeed ∉ (ran .overspeedTimerExpiry rollingAway).tau.cuts :=
  ⟨slotLent_of (by decide +kernel), by decide +kernel⟩

/-- R90: what the select monitor posts at the scan at which AUX leaves ROLLING does not outlive it. -/
theorem test_roll_without_select_ends_with_rolling :
    (deuRun rollingAway (bodyInputs rollingAway)).alarms =
      [.post .rollWithoutSelect, .withdraw .rollWithoutSelect] ∧
    (deuRun rollingAway (bodyInputs rollingAway)).deu.drives.aux.state = .releasing ∧
    lastingOps (deuRun rollingAway (bodyInputs rollingAway)).alarms = [.withdraw .rollWithoutSelect] := by
  decide +kernel

theorem test_overspeed_expiry_cuts_the_throttle :
    ((ran .overspeedTimerExpiry rolling).tau.cuts, (ran .overspeedTimerExpiry rolling).tau.do4,
     (ran .overspeedTimerExpiry rolling).ppu.alarms) =
      ([.rollOverspeed], true, [⟨.rollOverspeed, false⟩]) := by decide +kernel

theorem test_engage_premises :
    LinkFree ready ∧ 1 < (2#8).toNat ∧ driveOf 1#8 = some .aux ∧ SlotLent ready :=
  ⟨by decide +kernel, by decide, rfl, slotLent_of (by decide +kernel)⟩

theorem test_engage_main_shifts_at_once :
    ((ran (.engageDrive 0 1#8 0#8) ready).deu.do0, (ran (.engageDrive 0 1#8 0#8) ready).lku.do3,
     reply (ran (.engageDrive 0 1#8 0#8) ready)) = (true, true, [1#8]) := by decide +kernel

theorem test_engage_byte_two_refused : reply (ran (.engageDrive 0 1#8 2#8) ready) = [5#8] := by
  decide +kernel

/-- FAULTED in road position, and each other state a RELEASE_DRIVE meets, with the slot lent as it must be. -/
theorem test_release_premises :
    (LinkFree ready ∧ LinkFree preparing ∧ LinkFree shifting ∧ LinkFree idleWait ∧ LinkFree rolling ∧
      LinkFree restoring ∧ LinkFree auxReleasing) ∧ driveOf 0#8 = some .main ∧
    SlotLent ready ∧ SlotLent preparing ∧ SlotLent shifting ∧ SlotLent idleWait ∧ SlotLent rolling ∧
    SlotLent restoring ∧ SlotLent auxReleasing := by
  refine ⟨by decide +kernel, rfl, slotLent_of ?_, slotLent_of ?_, slotLent_of ?_, slotLent_of ?_,
    slotLent_of ?_, slotLent_of ?_, slotLent_of ?_⟩ <;> decide +kernel

theorem test_release_while_preparing :
    ((ran (.releaseDrive 0 1#8 0#8) preparing).deu.drives.main.cause,
     reply (ran (.releaseDrive 0 1#8 0#8) preparing)) = (some .cancelled, [0#8]) := by decide +kernel

theorem test_release_while_shifting_drives_road :
    ((ran (.releaseDrive 0 1#8 0#8) shifting).deu.do1, (ran (.releaseDrive 0 1#8 0#8) shifting).tau.cuts) =
      (true, [.driveRelease .main]) := by decide +kernel

/-- The slot granted to a PREPARING drive, and to one in SLOT_WAIT. -/
theorem test_grant_premises :
    let asks : DeuWork := { deu := ⟨⟨seqRec .preparing .permissive, .reset⟩, none, [.main], true, false, false, false⟩ }
    let waits : DeuWork := { deu :=
      ⟨⟨.reset, { DriveRec.reset with state := .rolling, pendingRelease := .slotWait }⟩, none, [.aux], true,
        false, false, true⟩ }
    ((offer ready asks.deu.waiting asks).drive .main).state = .shifting ∧
    (asks.drive .main).state ≠ .shifting ∧
    ((offer ready waits.deu.waiting waits).drive .aux).state = .releasing ∧
    (waits.drive .aux).state ≠ .releasing := by decide +kernel

def unadopted (split : Split) (feedback : Bool) : State := { ready with
  deu := Deu.reset
  isu := { ready.isu with pub := { ready.isu.pub with
    split := split, discretes := levels (if feedback then [0, 1, 4] else [0, 1]) } } }

theorem test_adoption_premises :
    (unadopted .pump true).deu.adopted = false ∧ (unadopted .pump true).pfu.conf ≠ .loading ∧
    (unadopted .pump true).isu.scanned = true ∧ (unadopted .pump true).isu.pub.split = .pump ∧
    (unadopted .road false).isu.pub.split = .road ∧ (unadopted .between false).isu.pub.split = .between ∧
    (unadopted .conflict false).isu.pub.split = .conflict ∧
    (unadopted .pump true).level .auxPtoFeedback = true ∧
    (unadopted .road false).level .auxPtoFeedback = false := by decide +kernel

/-- `s` at an ISU publication with the split position, the AUX feedback and ROAD_STILL as given. -/
def seen (split : Split) (feedback still : Bool) (s : State) : State :=
  { s with isu := { s.isu with roadStill := still, pub := { s.isu.pub with
    roadStill := still, split := split, discretes := levels (if feedback then [0, 1, 4] else [0, 1]) } } }

def mainEngaged : State := driving { DriveRec.reset with state := .engaged } .reset none [] ready

/-- Every clause of AdoptionFollowsThePositions about an ISU publication is met. -/
theorem test_publication_premises :
    (SlotLent (seen .pump false true shifting) ∧ SlotLent (seen .between true true auxReleasing) ∧
      SlotLent (seen .pump false false mainEngaged) ∧ SlotLent (seen .road false true restoring) ∧
      SlotLent (seen .road true true rolling)) ∧
    (seen .pump false true shifting).deu.drives.main.state = .shifting ∧
    (seen .pump false true shifting).pumpPosition .main = true ∧
    (seen .between false true shifting).pumpPosition .main = false ∧
    (seen .road false true auxReleasing).deu.drives.aux.state = .releasing ∧
    (seen .road false true auxReleasing).roadPosition .aux = true ∧
    (seen .between true true auxReleasing).roadPosition .aux = false ∧
    mainEngaged.deu.drives.main.state = .engaged ∧ mainEngaged.deu.drives.main.motionArmed = true ∧
    (seen .pump false false mainEngaged).isu.pub.roadStill = false ∧
    (mainEngaged.pulse .road).state = .stopped ∧ mainEngaged.deu.drives.main.pendingRelease = .none ∧
    restoring.deu.drives.main.phase = .restore ∧ rolling.deu.drives.aux.state.turning = true ∧
    rolling.deu.drives.aux.pendingRelease = .none := by
  refine ⟨⟨slotLent_of ?_, slotLent_of ?_, slotLent_of ?_, slotLent_of ?_, slotLent_of ?_⟩, ?_⟩ <;> decide +kernel

theorem test_publication_confirms_or_faults :
    (((seen .pump false true shifting).deuEvent .inputs).deu.drives.main.state,
     ((seen .road false true auxReleasing).deuEvent .inputs).deu.drives.aux.state,
     ((seen .pump false false mainEngaged).deuEvent .inputs).deu.drives.main.fault,
     ((seen .road false true restoring).deuEvent .inputs).deu.holder,
     ((seen .road true true rolling).deuEvent .inputs).deu.drives.aux.state) =
    (.engaged, .disengaged, some .motion, none, .engaged) := by decide +kernel

/-! ## Pump protection -/

def watching (w : Watch) (r : WatchRec) : State := { ready with ppu := ppuOutputs { ready.ppu with
  watches := ready.ppu.watches.set .main ((ready.ppu.watches.get .main).set w r) } }

/-- R102: MAIN's members go before AUX's, its OVERHEAT_WARN before a DRY_RUN(AUX) that trips at the same publication and
before AUX's watches on unloading. -/
theorem test_main_members_before_aux :
    let pumping : State := { rolling with isu := { rolling.isu with pub := { rolling.isu.pub with
      discretes := levels [0, 1, 9] } } }
    (((ppuInputs pumping { ppu := pumping.ppu }).ops.map SetOp.member).take 3) =
      [.overheatWarn .main, .watch .aux .dryRun, .overheatWarn .aux] ∧
    (((ppuUnload { ppu := ready.ppu }).ops.map SetOp.member).drop 3).take 3 =
      [.watch .main .dryRun, .overheatWarn .main, .watch .aux .overheat] := by decide +kernel

def pendingWatch : WatchRec := { WatchRec.reset with state := .pending, persist := .running 6000000 }

def recoveringWatch : WatchRec :=
  { WatchRec.reset with state := .recovering, persist := .running 6000000, cutPosted := true }

def dryWatch : WatchRec := { WatchRec.reset with state := .tripped, dry := .running 6000000 }

theorem test_watch_premises :
    (watching .cavitation pendingWatch).ppu.watches.main.cavitation.persist = .running 6000000 ∧
    (watching .cavitation pendingWatch).ppu.watches.main.cavitation.state = .pending ∧
    (watching .overheat recoveringWatch).ppu.watches.main.overheat.persist = .running 6000000 ∧
    (watching .overheat recoveringWatch).ppu.watches.main.overheat.state = .recovering ∧
    (watching .dryRun dryWatch).ppu.watches.main.dryRun.dry = .running 6000000 ∧
    (watching .dryRun recoveringWatch).ppu.watches.main.dryRun.persist = .running 6000000 ∧
    (watching .dryRun recoveringWatch).ppu.watches.main.dryRun.state = .recovering := by decide +kernel

/-- AUX DISENGAGED with its DRY_RUN watch still TRIPPED, the departure not yet taken (R99). -/
def departing : State := { ready with
  isu := { ready.isu with pub := { ready.isu.pub with discretes := levels [0, 1, 2, 9] } }
  ppu := ppuOutputs { ready.ppu with
    started := ⟨false, true⟩, watches := ready.ppu.watches.set .aux { ready.ppu.watches.aux with dryRun := dryWatch } } }

theorem test_departed_drive_is_not_evaluated :
    departing.turning .aux = false ∧
    (departing.ppuEvent .inputs).ppu.watches.aux.dryRun = { dryWatch with health := .none } ∧
    (departing.ppuEvent .gauges).ppu.watches.aux.dryRun = dryWatch := by decide +kernel

theorem test_persist_expiry_trips :
    ((ran (.persistTimerExpiry .main .cavitation) (watching .cavitation pendingWatch)).tau.cuts,
     (ran (.persistTimerExpiry .main .overheat) (watching .overheat pendingWatch)).ppu.do8) =
      ([.watch .main .cavitation], true) := by decide +kernel

theorem test_dry_expiries :
    ((ran (.dryTimerExpiry .main) (watching .dryRun dryWatch)).ppu.watches.main.dryRun.dryElapsed,
     (ran (.dryRunClearExpiry .main) (watching .dryRun recoveringWatch)).ppu.watches.main.dryRun.state) =
      (true, .clear) := by decide +kernel

def alarmed : State := { ready with ppu := ppuOutputs { ready.ppu with alarms := [⟨.fillFault, false⟩] } }

theorem test_silence_premises :
    LinkFree alarmed ∧ ppuOutputs alarmed.ppu = alarmed.ppu ∧
    (([⟨.fillFault, true⟩, ⟨.rollOverspeed, false⟩] : List Alarm).map (·.cause)).Nodup := by decide +kernel

theorem test_silence_stops_the_horn :
    (alarmed.ppu.do9, (ran (.silenceAlarm 0 1#8) alarmed).ppu.do9, reply (ran (.silenceAlarm 0 1#8) alarmed)) =
      (true, false, [0#8]) := by decide +kernel

/-! ## Lockouts -/

/-- The hydrant open and the key on, slots 2 and 5 ACTIVE, and slot 2 overridden when asked. -/
def locked (overridden : Bool) : State := { ready with
  isu := { ready.isu with pub := { ready.isu.pub with discretes := levels [0, 1, 2, 8, 10] } }
  lku := lkuSettled ready { ready.lku with
    records := List.replicate 2 .inactive ++ [⟨true, true, false⟩] ++ List.replicate 2 .inactive ++
      [⟨true, true, false⟩] ++ List.replicate 10 .inactive
    overrides := if overridden then [⟨2, .running 6000000⟩] else [] } }

theorem test_lockout_premises :
    (locked true).lku.table.length = 16 ∧ (locked true).lku.records.length = 16 ∧ LinkFree (locked true) ∧
    (locked true).lku.overrideTimer 2 = .running 6000000 ∧ (locked true).lku.overridden 2 = true ∧
    (locked true).lku.overridden 15 = false ∧ 15 < 16 ∧ 255 < 256 ∧ LinkFree (locked false) ∧
    (locked false).lku.table.length = 16 ∧ (locked false).lku.records.length = 16 ∧
    (locked false).lku.effect .roadGear = some 2 ∧ (locked false).lku.effect .auxRoll = none := by
  decide +kernel

/-- R114, R115: a split position of BETWEEN for one publication asserts the inhibit, and ROAD lifts it. -/
theorem test_main_gear_follows_the_split :
    (((seen .between false true ready).lkuEvent .inputs).lku.mainGear,
     ((seen .between false true ready).lkuEvent .inputs).lku.do3,
     ((seen .road false true ready).lkuEvent .inputs).lku.mainGear,
     ((seen .road true true rolling).lkuEvent .drives).lku.auxGear) = (true, true, false, false) := by decide +kernel

theorem test_override_lifts_the_inhibit :
    ((locked false).lku.do3, (ran (.overrideLockout 0 1#8 2#8 600#16) (locked false)).lku.do3,
     (ran (.overrideTimerExpiry 2) (locked true)).lku.do3,
     reply (ran (.cancelOverride 0 1#8 2#8) (locked true))) = (true, false, true, [0#8]) := by decide +kernel

theorem test_confirm_opens_the_start :
    (reply (ran (.engageDrive 0 1#8 0#8) (locked false)),
     (ran (.confirmLockout 0 1#8 5#8) (locked false)).lku.effect .mainEngage) = ([2#8, 2#8, 5#8], none) := by
  decide +kernel

/-- R118, and R129 with R130: overrides of slots 9 and 4 ended in that order. -/
theorem test_watch_terms_and_notice_order :
    (termTruth (watching .overheat { recoveringWatch with health := .none }) (.watchTripped .main .overheat),
     termTruth (watching .overheat { recoveringWatch with health := .held }) (.watchTripped .main .overheat),
     termTruth (watching .overheat { recoveringWatch with health := .unknown }) (.watchTripped .main .overheat),
     noticeOrder [9, 4] [3, 4, 5, 9, 10] [9, 4]) = (some false, some true, none, [3, 9, 5, 4, 10]) := by
  decide +kernel

theorem test_lamp :
    ((idleWait.lkuEvent .drives).lku.do7, (ready.lkuEvent .drives).lku.do7) = (true, false) := by
  decide +kernel

/-! ## Throttle authority -/

/-- MAIN ENGAGED with the authority record given; the panel throttle off its stop. -/
def authority (st : Authority) : State :=
  let s := driving { DriveRec.reset with state := .engaged } .reset none [] ready
  { s with tau := tauOutputs { s.tau with
    state := st, transfer := if st = .toPanel || st = .toCab then .running 6000000 else .stopped
    reclaim := if st = .panel then .running 6000000 else .stopped, reclaimPending := st = .panel } }

theorem test_authority_premises :
    (authority .toPanel).tau.transfer = .running 6000000 ∧ (authority .toPanel).tau.state = .toPanel ∧
    (authority .toCab).tau.transfer = .running 6000000 ∧ (authority .toCab).tau.state = .toCab ∧
    (authority .panel).tau.reclaim = .running 6000000 ∧ (authority .panel).tau.state = .panel ∧
    driveCondition (authority .panel) = true ∧ LinkFree (authority .panel) ∧ LinkFree (authority .toCab) ∧
    tauOutputs (authority .panel).tau = (authority .panel).tau ∧
    tauOutputs (authority .toCab).tau = (authority .toCab).tau ∧
    (authority .panel).tau.state.towardPanel = true ∧
    ((authority .toCab).panelIdle && (authority .toCab).atIdle) = false := by decide +kernel

theorem test_authority_timers :
    ((ran .transferTimerExpiry (authority .toPanel)).tau.cause,
     (ran .transferTimerExpiry (authority .toCab)).tau.cause,
     (ran .reclaimTimerExpiry (authority .panel)).tau.state,
     reply (ran (.reclaimAuthority 0 1#8) (authority .cab))) =
      (some .notIdle, some .forced, .toCab, [2#8, 1#8]) := by decide +kernel

/-- The panel switch just operated. -/
def requested (engaged : Bool) : State :=
  let s := if engaged then authority .cab else ready
  { s with isu := { s.isu with pub := { s.isu.pub with
    discretes := (levels [0, 1, 2, 5]).set 5 ⟨true, true⟩ } } }

theorem test_panel_premises :
    ((authority .panel).tauEvent .inputs).tau.state.towardPanel = true ∧
    (requested true).tau.state = .cab ∧ (requested true).rising .panelAuthReq = true ∧
    panelDenial (requested true) (requested true).tau = none ∧
    panelDenial (requested false) (requested false).tau = some 1 ∧
    (SetOp.post (Cut.driveRelease .main)) ∈ [SetOp.withdraw .rollOverspeed, .post (Cut.driveRelease .main)] ∧
    Cut.driveRelease .main ∉ (authority .panel).tau.cuts ∧ (authority .toPanel).tau.state = .toPanel ∧
    .panelAuthority ∈ [Target.tankFill, .panelAuthority] ∧
    ((authority .panel).tauEvent (.lockouts [.tankFill, .panelAuthority])).tau.state.towardPanel = true := by
  decide +kernel

/-- Slot 2 made a PANEL_AUTHORITY lockout. -/
def panelLocked : State :=
  let s := locked false
  { s with lku := { s.lku with
    table := s.lku.table.map fun e => if e.target = .roadGear then { e with target := .panelAuthority } else e } }

theorem test_panel_lockout_premise : panelLocked.effective .panelAuthority = true := by decide +kernel

/-! ## The duty recorder -/

def recording (d : Drc) (busy : Option (Client × PortOp)) : State :=
  { ready with drc := d, port := ⟨busy, none, none, some .drc⟩ }

/-- A record whose write is in progress in slot 6. -/
def writing (last : Option WriteEnd) : State :=
  recording { ready.drc with
    queue := [⟨1, true, .lost 1⟩], write := some ⟨7, [1#8], true, false, last⟩ }
    (some (.drc, .slotWrite 6 [1#8]))

def syncDue : State := recording { ready.drc with changed := true } none

theorem test_sync_and_write_premises :
    syncDue.lnk.restart = none ∧ syncDue.drc.syncTimer = .running 600000000 ∧ syncDue.drc.state ≠ .failed ∧
    syncDue.drc.changed = true ∧ syncDue.drc.queue = [] ∧ syncDue.drc.write = none ∧
    syncDue.drc.lostCount = 0 ∧ ready.drc.changed = false ∧
    (writing none).lnk.restart = none ∧ (writing none).port.busy = some (.drc, .slotWrite 6 [1#8]) ∧
    (writing none).drc.write = some ⟨7, [1#8], true, false, none⟩ ∧ 7 < lastSequence ∧
    (writing none).drc.state = .running ∧ (writing none).drc.read = none ∧ (writing none).drc.head = some 6 ∧
    (writing (some .noAnswer)).drc.write = some ⟨7, [1#8], true, false, some .noAnswer⟩ := by decide +kernel

theorem test_write_ends :
    ((ran (.halfPageWriteEnd 9 .equal) (writing none)).drc.nextSeq,
     (ran (.halfPageWriteEnd 9 .equal) (writing none)).drc.queue,
     (ran (.halfPageWriteEnd 9 .noAnswer) (writing (some .noAnswer))).drc.state,
     (ran (.halfPageWriteEnd 9 .different) (writing (some .different))).drc.head) =
      (some 8, [], .failed, some 7) := by decide +kernel

theorem test_sync_timer_stages_a_sync :
    (ran .syncTimerExpiry syncDue).drc.queue.map (·.body) = [.sync .timer false] := by decide +kernel

/-- The recovery scan at a slot. -/
def scanning (slot : Nat) (again : Bool) : State :=
  recording { Drc.reset with scan := ⟨slot, again, some (4, 3), some 2, none⟩ } (some (.drc, .slotRead slot))

/-- READ RECORDS of two records, the first read in progress. -/
def reading : State := served none none
  (recording { ready.drc with read := some ⟨5, 2, true, 5, 6, false, []⟩ } (some (.drc, .slotRead 4)))

theorem test_slot_read_premises :
    (scanning 1919 false).lnk.restart = none ∧ (scanning 1919 false).port.busy = some (.drc, .slotRead 1919) ∧
    (scanning 1919 false).drc.state = .recovering ∧ (scanning 1919 false).drc.scan.slot = 1919 ∧
    (scanning 0 true).drc.read = none ∧ (scanning 0 true).drc.scan.again = true ∧
    reading.lnk.restart = none ∧ reading.port.busy = some (.drc, .slotRead 4) ∧
    reading.drc.state = .running ∧ reading.drc.read = some ⟨5, 2, true, 5, 6, false, []⟩ ∧
    reading.drc.write = none ∧ reading.drc.head ≠ none ∧ reading.drc.nextSeq ≠ none ∧
    reading.lnk.service = some ⟨0x28#8, 9#8, none⟩ := by decide +kernel

def erasedSlot : SlotEnd := .done (Vector.replicate 32 0xFF#8)

theorem test_slot_read_ends :
    ((ran (.slotReadEnd 0 erasedSlot) (scanning 1919 false)).drc.nextSeq,
     (ran (.slotReadEnd 0 erasedSlot) (scanning 1919 false)).drc.head,
     (ran (.slotReadEnd 0 .noAnswer) (scanning 0 true)).drc.state,
     (ran (.slotReadEnd 0 erasedSlot) reading).drc.read.map (·.cursor)) =
      (some 5, some 4, .failed, some 6) := by decide +kernel

theorem test_recorder_request_premises :
    LinkFree ready ∧ ready.drc.read = none ∧ ready.drc.write = none := by decide +kernel

theorem test_recorder_requests :
    (reply (ran (.readRecords 0 1#8 9#32 1#8) ready), reply (ran (.readRecords 0 1#8 6#32 4#8) ready),
     (ran (.markRecord 0 1#8 (Vector.replicate 16 7#8)) ready).drc.write.map (·.sequence),
     (reply (ran (.getAccumulators 0 1#8) ready)).take 1) =
      ([2#8, 7#8, 0#8, 0#8, 0#8, 1#8, 0#8, 0#8, 0#8, 6#8], [5#8], some 7, [0#8]) := by decide +kernel

theorem test_record_bytes_premises :
    1 ≤ lastSequence ∧ (4294967295 : Nat) ≤ 4294967295 ∧ (RecordBody.sync .timer false).isSync = true ∧
    AccumulatorsAtMost ⟨top32, 0, 0, 0, 65535, 0⟩ ⟨top32, top32, top32, top32, 65535, 65535⟩ := by decide

/-- R188, R192: an enumerated value is one byte; R106: a DRY_RUN trip carries its condition, UNCOVERED here. -/
theorem test_record_bodies :
    recordBody ready.drc.acc (.overrideEnd 5 .roadGear .cancelled true) = [5#8, 2#8, 1#8, 1#8, 0xFF#8] ∧
    recordBody ready.drc.acc (.protection .aux .dryRun true (some (-2)) .tripped (some 2)) =
      [1#8, 3#8, 0#8, 0xFF#8, 0xFE#8, 0#8, 2#8] ∧
    mainFirst [.driveFault .aux .adoptedUnpowered .disengaged 1, .driveFault .main .motion .engaged 1] =
      [.driveFault .main .motion .engaged 1, .driveFault .aux .adoptedUnpowered .disengaged 1] := by
  decide +kernel

/-- R153: the first and the last slot. -/
theorem test_slot_addresses : (slotAddress 0, slotAddress 1919, pageAddress 63) = (0x1000, 0xFFE0, 0xFC0) := by
  decide

theorem test_set_time_premises :
    LinkFree ready ∧ ready.drc.read = none ∧ (0#32).toNat = 0 ∧ (1#32).toNat ≠ 0 ∧
    (ran (.setTime 0 1#8 1#32) ready).drc.timeBase = (ran (.setTime 0 1#8 1#32) ready).drc.timeBase ∧
    (ran (.setTime 0 1#8 1#32) ready).now + 0 * 1000000 ≤ (ran (.setTime 0 1#8 1#32) ready).now ∧
    (ran (.setTime 0 1#8 1#32) ready).now < (ran (.setTime 0 1#8 1#32) ready).now + (0 + 1) * 1000000 ∧
    ready.lnk.masked .fill = false ∧ ready.lnk.notices.length < 32 ∧ 1 ≤ 7 ∧ 7 ≤ lastSequence ∧
    99 ≤ 4294967295 := by
  decide +kernel

theorem test_set_time_reads_the_value :
    (ran (.setTime 0 1#8 99#32) ready).seconds = 99 ∧ reply (ran (.setTime 0 1#8 0#32) ready) = [5#8] := by
  decide +kernel

/-! ## The host link -/

def receiving (rx : Option (List Byte)) : State :=
  { ready with lnk := { ready.lnk with rx := rx, gapTimer := .running 6000000 } }

/-- GET STATUS with tag 5, as it is sent. -/
def statusFrame : Frame := ⟨0x01#8, 5#8, []⟩

theorem test_receiver_premises :
    (receiving none).lnk.restart = none ∧ (receiving none).lnk.gapTimer = .running 6000000 ∧
    (receiving none).lnk.rx = none ∧ (receiving (some [])).lnk.rx = some [] ∧
    (receiving (some [0#8, 1#8, 5#8])).lnk.rx = some (0#8 :: [1#8, 5#8]) ∧
    (0#8 :: [1#8, 5#8] ++ [0x7E#8]).length < (0#8).toNat + 5 ∧
    (receiving (some ((frameBytes statusFrame).take 4))).lnk.rx = some ((frameBytes statusFrame).take 4) ∧
    (frameBytes statusFrame).length = (0#8).toNat + 5 ∧
    (frameBytes statusFrame).drop 3 = crcBytes ((frameBytes statusFrame).take 3) ∧
    [0#8, 1#8, 5#8, 0#8, 0#8].drop 3 ≠ crcBytes ([0#8, 1#8, 5#8, 0#8, 0#8].take 3) := by decide +kernel

theorem test_receiver :
    ((ran (.hlrxByte 9 0xA5#8 false) ready).lnk.rx, (ran (.hlrxByte 9 121#8 false) (receiving (some []))).lnk.rx,
     (ran (.hlrxByte 9 121#8 false) (receiving (some []))).lnk.faults.length,
     (ran .gapTimerExpiry (receiving (some [3#8]))).lnk.faults.gap,
     (ran (.hlrxByte 9 120#8 false) (receiving (some []))).lnk.rx) =
      (some [], none, 1, 1, some [120#8]) := by decide +kernel

theorem test_frame_premises : statusFrame.body.length ≤ 120 ∧ ready.lnk.rx = none := by decide +kernel

theorem test_bytes_of_a_frame_are_answered :
    reply ((0xA5#8 :: frameBytes ⟨0x77#8, 5#8, [1#8]⟩).foldl (fun s b => ran (.hlrxByte 9 b false) s) ready) =
      [3#8] := by decide +kernel

theorem test_reading_premises :
    LinkFree ready ∧ (0x77#8 : Byte) ∉ requestKinds ∧ tankOf (3#8).toNat = some .t3 ∧
    tankOf (4#8).toNat = none := by decide +kernel

/-- The lengths of R190 and its result code (15 channels of 5 bytes and 4 inputs of 7 among the 112). -/
theorem test_reading_requests :
    ((reply (ran (.getStatus 0 1#8) ready)).length, (reply (ran (.getInputs 0 1#8) ready)).length,
     (reply (ran (.getTank 0 1#8 3#8) ready)).length, reply (ran (.getTank 0 1#8 4#8) ready),
     (reply (ran (.getLockouts 0 1#8) ready)).length, reply (ran (.unknownKind 0 1#8 0x77#8 []) ready)) =
      (70, 113, 33, [5#8], 103, [3#8]) := by decide +kernel

def noticed : State := { ready with lnk := { ready.lnk with
  notices := List.replicate 9 ⟨.fill, 3, 0#8, []⟩, attnLow := true, lost := 4 } }

theorem test_notice_premises :
    LinkFree noticed ∧ 4096 ≤ (0x1000#16).toNat ∧ (0xFFF#16).toNat < 4096 := by decide +kernel

theorem test_fetch_reports_the_loss :
    ((ran (.fetchNotices 0 1#8) noticed).lnk.notices.map (·.kind), (ran (.fetchNotices 0 1#8) noticed).lnk.lost,
     (ran (.setNoticeMask 0 1#8 0x40#16) noticed).lnk.notices.map (·.kind)) =
      ([.fill, .noticesLost], 0, [.noticesLost]) := by decide +kernel

/-- A reply on HLTX, with the restart given. -/
def answered (restart : Option RestartWait) (waiting : Option Frame) : State :=
  { ready with lnk := { ready.lnk with
    service := some ⟨0x01#8, 9#8, some [0xA5#8]⟩, restart := restart, waiting := waiting } }

theorem test_reply_sent_premises :
    (answered none none).lnk.service = some ⟨0x01#8, 9#8, some [0xA5#8]⟩ ∧
    (answered none none).lnk.restart = none ∧ (answered none none).lnk.waiting = none ∧
    (answered none (some statusFrame)).lnk.waiting = some statusFrame ∧
    (answered (some ⟨false, false⟩) none).lnk.restart = some ⟨false, false⟩ ∧
    (answered (some ⟨false, true⟩) none).lnk.restart = some ⟨false, true⟩ := by decide +kernel

theorem test_soft_restart_premises :
    LinkFree ready ∧ ready.bothDisengaged = true ∧ ready.pfu.conf ≠ .applying ∧ ready.drc.read = none ∧
    ready.drc.state = .running ∧ LinkFree shifting ∧ shifting.bothDisengaged = false ∧
    LinkFree { ready with pfu := { ready.pfu with conf := .applying } } ∧
    State.bothDisengaged { ready with pfu := { ready.pfu with conf := .applying } } = true := by decide +kernel

theorem test_restart_takes_place :
    ((ran (.replySent 9) (answered (some ⟨false, true⟩) none)).pfu.conf,
     (ran (.softRestart 0 1#8) ready).lnk.restart,
     ((ran (.softRestart 0 1#8) ready).drc.write.map (·.restartMark))) =
      (.loading, some ⟨false, false⟩, some true) := by decide +kernel

/-! ## The Profile Unit -/

def supplied (st : SupplyState) (mv low high : Nat) : State := { ready with
  isu := { ready.isu with pub := { ready.isu.pub with supplyMv := mv } }
  pfu := { ready.pfu with supply := st, lowCount := low, highCount := high, recovery := .running 6000000 } }

theorem test_supply_premises :
    ((supplied .normal 8499 1 0).pfuEvent .inputs).pfu.supply ≠ (supplied .normal 8499 1 0).pfu.supply ∧
    (supplied .normal 8499 1 0).pfu.supply = .normal ∧
    ((supplied .normal 8499 1 0).pfuEvent .inputs).pfu.supply = .droop ∧
    ((supplied .normal 8500 1 0).pfuEvent .inputs).pfu.supply = .normal ∧
    ((supplied .droop 10500 0 1).pfuEvent .inputs).pfu.supply = .recovering ∧
    ((supplied .droop 10499 0 1).pfuEvent .inputs).pfu.supply = .droop ∧
    (supplied .recovering 12000 0 2).pfu.recovery = .running 6000000 ∧
    (supplied .recovering 12000 0 2).pfu.supply = .recovering ∧
    (supplied .recovering 12000 0 2).lnk.restart = none := by decide +kernel

/-- R156: the DROOP SYNC and the SUPPLY record arrive in either order, by the schedule, and the one that arrives
first at an empty queue is written first. -/
theorem test_droop_orders :
    let queued (order : List Block) : List RecordBody :=
      (({ supplied .normal 8499 1 0 with schedule := order } : State).pfuEvent .inputs).finish.drc.queue.map
        (·.body)
    queued [] = [.supply .normal .droop 8499, .sync .droop false] ∧
    queued [.pfu] = [.sync .droop false, .supply .normal .droop 8499] := by decide +kernel

theorem test_recovery_expiry :
    (ran .recoveryTimerExpiry (supplied .recovering 12000 0 2)).pfu.supply = .normal := by decide +kernel

/-- The Profile Unit at work on a page. -/
def paging (conf : Conf) (task : PfuTask) (op : PortOp) (s : State) : State :=
  { s with pfu := { s.pfu with conf := conf, task := task }, port := ⟨some (.pfu, op), none, none, some .pfu⟩ }

def loading (again : Bool) : State := paging .loading (.load 63 again) (.pageRead 63) State.reset

def reader : State :=
  let s := paging .configured (.read 4095 1 63 false []) (.pageRead 63) ready
  { s with lnk := { s.lnk with service := some ⟨0x30#8, 9#8, none⟩ } }

theorem test_page_read_premises :
    (loading true).lnk.restart = none ∧ (loading true).port.busy = some (.pfu, .pageRead 63) ∧
    (loading true).pfu.task = .load 63 true ∧ (loading false).pfu.task = .load 63 false ∧
    reader.lnk.restart = none ∧ reader.port.busy = some (.pfu, .pageRead 63) ∧
    reader.pfu.task = .read 4095 1 63 false [] ∧ reader.lnk.service = some ⟨0x30#8, 9#8, none⟩ := by
  decide +kernel

def erasedPage : PageEnd := .done (Vector.replicate 64 0xFF#8)

theorem test_page_reads :
    ((ran (.pageReadEnd 0 .noAnswer) (loading true)).pfu.conf,
     (ran (.pageReadEnd 0 .noAnswer) (loading false)).pfu.task,
     reply (ran (.pageReadEnd 0 erasedPage) reader)) = (.unconfigured, .load 63 true, [0#8, 0xFF#8]) := by
  decide +kernel

def applying (again : Bool) : State :=
  paging .applying (.apply 63 again) (.pageWrite 63 (List.replicate 64 0xFF#8)) ready

theorem test_page_write_premises :
    (applying true).lnk.restart = none ∧
    (applying true).port.busy = some (.pfu, .pageWrite 63 (List.replicate 64 0xFF#8)) ∧
    (applying true).pfu.task = .apply 63 true ∧ (applying false).pfu.task = .apply 63 false := by
  decide +kernel

theorem test_page_writes :
    ((ran (.pageWriteEnd 0 .equal) (applying false)).pfu.conf,
     (ran (.pageWriteEnd 0 .different) (applying true)).pfu.conf,
     (ran (.pageWriteEnd 0 .noAnswer) (applying false)).pfu.task) =
      (.configured, .loading, .apply 63 true) := by decide +kernel

theorem test_profile_request_premises :
    LinkFree ready ∧ 1 ≤ ([1#8] : List Byte).length ∧ ([1#8] : List Byte).length ≤ 112 ∧
    sectionPlace 6 = some ⟨0x600, 3⟩ ∧ sectionPlace 7 = none := by decide +kernel

/-- The last byte of AUTHORITY may be written, its CRC may not, and both may be read. -/
theorem test_profile_requests :
    reply (ran (.profileWrite 0 1#8 6#8 2#16 [1#8]) (locked false)) = [0#8] ∧
    reply (ran (.profileWrite 0 1#8 6#8 3#16 [1#8]) (locked false)) = [5#8] ∧
    reply (ran (.profileWrite 0 1#8 6#8 2#16 [1#8]) ready) = [7#8] ∧
    reply (ran (.profileRead 0 1#8 1#8 6#8 3#16 2#8) ready) = [0#8, 0xFF#8, 0xFF#8] ∧
    reply (ran (.profileRead 0 1#8 1#8 6#8 3#16 3#8) ready) = [5#8] ∧
    reply (ran (.profileDiscard 0 1#8) ready) = [0#8] ∧
    reply (ran (.profileApply 0 1#8) ready) = [7#8] := by decide +kernel

/-- An UNUSED channel of INPUTS (R193). -/
def unusedBytes : List Byte := [6#8, 0#8] ++ be16 0 ++ be16 4095 ++ List.replicate 5 0#8
/-- AIN0 the probe of T0, every other channel UNUSED. -/
def inputBytes : List Byte :=
  [0#8, 0#8] ++ be16 0 ++ be16 4000 ++ be16 0 ++ be16 4000 ++ [0#8] ++ (List.replicate 14 unusedBytes).flatten ++
  (List.replicate 4 (be16 500 ++ 4#8 :: be16 8000)).flatten ++ be16 2000
/-- T0 with one probe and three strapping points, and refill not enabled. -/
def tankBytes : List Byte :=
  [1#8, 1#8] ++ be16 900 ++ be16 0 ++ be16 0 ++ be16 2000 ++ List.replicate 24 0#8 ++
  be16 1100 ++ be16 0 ++ be16 0 ++ be16 40 ++ 3#8 :: [0, 0, 100, 180, 600, 1240].flatMap be16 ++
  List.replicate 120 0#8 ++ [100, 400, 700, 1000, 50].flatMap be16 ++ 5#8 :: be16 100 ++
  List.replicate 564 0#8 ++ [0#8, 0#8] ++ be16 100 ++ 20#8 :: be16 50
def pumpBytes : List Byte := [0#8, 60#8, 70#8] ++ be16 1700 ++ be16s (-60) ++ [10#8]
/-- The seven sections at their addresses. -/
def sectionBytes : List (Nat × List Byte) :=
  [(0, List.replicate 16 0x41#8 ++ be16 17), (0x20, inputBytes), (0x100, tankBytes),
   (0x400, be16 800 ++ [10#8, 4#8, 20#8] ++ be16 1000 ++ be16 800 ++ be16 160 ++ [15#8]),
   (0x420, pumpBytes ++ pumpBytes), (0x440, List.replicate 400 0#8), (0x600, [3#8, 5#8, 10#8])]
/-- The sections in one image, their CRCs left out. -/
def validImage : Memory :=
  (sectionBytes.map fun (a, bs) => ((List.range bs.length).zip bs).filterMap fun (i, b) =>
    if b = 0xFF#8 then none else some (a + i, b)).flatten
theorem test_sections_have_their_lengths : sectionBytes.map (·.2.length) = [18, 187, 759, 12, 16, 400, 3] := by
  decide +kernel

/-- R193. -/
theorem test_unused_term_parameter_is_zero :
    (paramChecks [] [9#8, 0#8, 0#8, 0#8, 0#8] 0).all (·.passes) = true ∧
    (paramChecks [] [9#8, 0#8, 1#8, 0#8, 0#8] 0).all (·.passes) = false ∧
    (paramChecks [] [12#8, 0#8, 0#8, 0#8, 1#8] 0).all (·.passes) = false := by decide +kernel

/-- An image in its form that passes the field checks, with a tank enabled. -/
theorem test_image_premises :
    fieldFinding validImage = none ∧ (profileOf validImage).tanks.t0.enabled = true ∧
    Memory.wf validImage = true := by decide +kernel

end Sys2Proof.Tests
end

section
/-! PROOFS. The reset state. -/

namespace Sys2Proof.Machine

open Sys2Proof.Safety

/-! ## The reset state (R17, R43, R62, R94, R112, R133, R146, R164, R177, R186) -/

theorem reset_level (d : Discrete) : State.reset.level d = false ∧ State.reset.changed d = false := by
  cases d <;> decide

theorem reset_holdMaxMs (p : PulseIn) : State.reset.holdMaxMs p = if p = .road then 2000 else 500 := by
  cases p <;> rfl

theorem reset_pulse (p : PulseIn) :
    State.reset.isu.pulses.get p = ⟨.stopped, none, none, .stopped⟩ := by
  cases p <;> rfl

theorem reset_gauge (t : Tank) : State.reset.tgu.gauges.get t = .notComputed := by
  cases t <;> rfl

theorem reset_keep (t : Tank) : State.reset.tgu.keeps.get t = .fresh := by
  cases t <;> rfl

theorem reset_band (t : Tank) : State.reset.lbu.bands.get t = .lost := by
  cases t <;> rfl

theorem reset_drive (d : Drive) : State.reset.deu.drives.get d = .reset := by
  cases d <;> rfl

theorem reset_watch (d : Drive) (k : Watch) : (State.reset.ppu.watches.get d).get k = .reset := by
  cases d <;> cases k <;> rfl

theorem reset_source (d : Drive) : State.reset.ppu.sources.get d = .none := by
  cases d <;> rfl

theorem reset_lawful : Lawful State.reset := by
  have profile : ProfileInForce State.reset := ⟨rfl, fun _ h => nomatch h⟩
  exact ⟨Memory.reset_wf, by decide, by decide, by decide, by decide, by decide, profile, rfl⟩

theorem reset_slotLent : SlotLent State.reset := by
  refine ⟨by decide, fun d => ?_⟩
  rw [reset_drive]
  cases d <;> decide

theorem reset_setsDistinct : SetsDistinct State.reset := ⟨List.nodup_nil, List.nodup_nil⟩

theorem reset_profileSound : ProfileSound State.reset :=
  ⟨fun _ h => (nomatch h), fun _ _ h => (nomatch h)⟩

/-- Settles O5, block by block. -/
theorem resetStateHoldsTheTablesOfValues : Obligations.ResetStateHoldsTheTablesOfValues := by
  unfold Obligations.ResetStateHoldsTheTablesOfValues
  intro s
  refine ⟨?inputs, ?gauges, ?bands, ?drives, ?watches, ?lockouts, ?authority, ?recorder, ?link, ?profile,
    ?outputs, reset_lawful, reset_slotLent, reset_setsDistinct, reset_profileSound⟩
  case inputs =>
    refine ⟨rfl, rfl, rfl, by decide, by decide, fun p => ?_, rfl, reset_level, rfl, rfl, rfl⟩
    rw [reset_pulse]
    exact ⟨rfl, rfl, reset_holdMaxMs p⟩
  case gauges =>
    refine ⟨rfl, rfl, fun t => ?_, rfl⟩
    rw [reset_gauge, reset_keep]
    exact ⟨rfl, rfl, rfl, rfl, rfl, rfl⟩
  case bands => exact ⟨reset_band, rfl, rfl, rfl, rfl⟩
  case drives =>
    refine ⟨fun d => ?_, rfl, rfl, rfl⟩
    rw [reset_drive]
    decide
  case watches =>
    refine ⟨fun d k => ?_, reset_source, rfl⟩
    rw [reset_watch]
    decide
  case lockouts | authority | recorder | link | profile | outputs => decide

end Sys2Proof.Machine

end

section
/-! PROOFS. The inputs: conversion, channel health, pulse inputs and published speeds. -/

namespace Sys2Proof.Machine

/-! ## Rounding and conversion (5.2, R3, R4) -/

theorem clamp_mem {lo hi : Int} (h : lo ≤ hi) (x : Int) : lo ≤ clamp lo hi x ∧ clamp lo hi x ≤ hi := by
  unfold clamp
  omega

theorem clamp_of_mem {lo hi x : Int} (hlo : lo ≤ x) (hhi : x ≤ hi) : clamp lo hi x = x := by
  unfold clamp
  omega

/-- Nearest rounding of a quotient that is not negative, by the half-open interval its double lies in. -/
theorem divNearest_eq_iff {a b : Int} (hb : 0 < b) (ha : 0 ≤ a) (q : Int) :
    divNearest a b = q ↔ 2 * (b * q) ≤ 2 * a + b ∧ 2 * a + b < 2 * (b * q) + 2 * b := by
  have h2 : 2 * b * q = 2 * (b * q) := by ring
  rw [divNearest, if_pos ha, Int.ediv_eq_iff_of_pos (by omega), ← h2, mul_comm q]

/-- Halves go away from zero on both sides, so nearest rounding is odd. -/
theorem divNearest_neg {b : Int} (hb : 0 < b) (a : Int) : divNearest (-a) b = -divNearest a b := by
  obtain ha | rfl | ha := lt_trichotomy a 0
  · rw [divNearest, if_pos (by omega), divNearest, if_neg (by omega), neg_neg]
  · have h0 : divNearest 0 b = 0 := (divNearest_eq_iff hb le_rfl 0).2 (by omega)
    rw [neg_zero, h0, neg_zero]
  · rw [divNearest, if_neg (by omega), neg_neg, divNearest, if_pos (by omega)]

/-- The rounded quotient is within one half of the exact one. -/
theorem divNearest_within_half {b : Int} (hb : 0 < b) (a : Int) :
    (2 * (b * divNearest a b - a)).natAbs ≤ b.natAbs := by
  obtain ha | ha := le_total 0 a
  · have := (divNearest_eq_iff hb ha _).1 rfl
    omega
  · have := (divNearest_eq_iff hb (Int.neg_nonneg.2 ha) _).1 rfl
    rw [divNearest_neg hb, mul_neg] at this
    omega

/-- A quotient exactly halfway above `q` goes up. -/
theorem divNearest_half {a b q : Int} (hb : 0 < b) (ha : 0 ≤ a) (h : 2 * (a - b * q) = b) :
    divNearest a b = q + 1 := by
  rw [divNearest_eq_iff hb ha, mul_add]
  omega

/-- An exact quotient is not rounded. -/
theorem divNearest_mul {b : Int} (hb : 0 < b) (d : Int) : divNearest (b * d) b = d := by
  have nonneg : ∀ d : Int, 0 ≤ d → divNearest (b * d) b = d := fun d hd =>
    (divNearest_eq_iff hb (mul_nonneg hb.le hd) d).2 (by omega)
  obtain hd | hd := le_total 0 d
  · exact nonneg d hd
  · rw [← neg_neg d, mul_neg, divNearest_neg hb, nonneg (-d) (by omega)]

theorem roleRange_le {r : Role} {lo hi : Int} (h : roleRange r = some (lo, hi)) : lo ≤ hi := by
  cases r <;> simp only [roleRange, Option.some.injEq, Prod.mk.injEq, reduceCtorEq] at h <;> omega

/-- A role with a unit range has its conversions clamped to it (R4). -/
theorem convert_eq_clamp {e : Entry} {lo hi : Int} (h : roleRange e.role = some (lo, hi)) (code : Nat) :
    convert e code = clamp lo hi (e.loValue +
      divNearest (((code : Int) - e.loCode) * (e.hiValue - e.loValue)) (e.hiCode - e.loCode)) := by
  simp only [convert, h]

theorem convert_mem {e : Entry} {lo hi : Int} (h : roleRange e.role = some (lo, hi)) (code : Nat) :
    lo ≤ convert e code ∧ convert e code ≤ hi := by
  rw [convert_eq_clamp h]
  exact clamp_mem (roleRange_le h) _

theorem convert_loCode {e : Entry} {lo hi : Int} (h : roleRange e.role = some (lo, hi))
    (hc : e.loCode < e.hiCode) (hlo : lo ≤ e.loValue) (hhi : e.loValue ≤ hi) :
    convert e e.loCode = e.loValue := by
  have hz := divNearest_mul (b := (e.hiCode : Int) - e.loCode) (by omega) 0
  rw [mul_zero] at hz
  rw [convert_eq_clamp h, sub_self, zero_mul, hz, add_zero, clamp_of_mem hlo hhi]

theorem convert_hiCode {e : Entry} {lo hi : Int} (h : roleRange e.role = some (lo, hi))
    (hc : e.loCode < e.hiCode) (hlo : lo ≤ e.hiValue) (hhi : e.hiValue ≤ hi) :
    convert e e.hiCode = e.hiValue := by
  rw [convert_eq_clamp h, divNearest_mul (by omega), add_sub_cancel, clamp_of_mem hlo hhi]

/-! ## The health of a channel (R5) -/

theorem goodCode_iff (e : Entry) (code : Nat) :
    goodCode e code = true ↔ e.fullRange = true ∨ 40 ≤ code ∧ code ≤ 4055 := by
  simp [goodCode]

theorem evalChannel_good {e : Entry} {code : Nat} (h : goodCode e code = true) (ch : Channel) :
    evalChannel e code ch =
      (⟨.good, if e.role = .unused then none else some (convert e code), 0, .no⟩,
        if e.role = .unused then none else some (convert e code)) := by
  rw [evalChannel, if_pos h]

section
variable {e : Entry} {code : Nat} {ch : Channel} {v : Int}

theorem evalChannel_unseeded (h : goodCode e code = false) (hl : ch.lastGood = none) :
    evalChannel e code ch = (⟨.unknown, none, 51, .no⟩, none) := by
  simp [evalChannel, h, hl]

theorem evalChannel_begins_hold (h : goodCode e code = false) (hl : ch.lastGood = some v)
    (hh : ch.health = .good) : evalChannel e code ch = (⟨.held, some v, 1, .no⟩, some v) := by
  simp [evalChannel, h, hl, hh]

theorem evalChannel_holds (h : goodCode e code = false) (hl : ch.lastGood = some v)
    (hh : ch.health = .held) (hn : ch.hold < 50) :
    evalChannel e code ch = (⟨.held, some v, ch.hold + 1, .no⟩, some v) := by
  simp [evalChannel, h, hl, hh, hn]

theorem evalChannel_ends_hold (h : goodCode e code = false) (hl : ch.lastGood = some v)
    (hh : ch.health = .held) (hn : 50 ≤ ch.hold) :
    evalChannel e code ch = (⟨.unknown, some v, 51, .no⟩, some v) := by
  simp [evalChannel, h, hl, hh, Nat.not_lt.2 hn]

theorem evalChannel_unknown (h : goodCode e code = false) (hl : ch.lastGood = some v)
    (hh : ch.health = .unknown) : evalChannel e code ch = (⟨.unknown, some v, ch.hold, .no⟩, some v) := by
  simp [evalChannel, h, hl, hh]

end

/-- What a channel that was GOOD with value `v` keeps after `n` consecutive out-of-range scans. -/
def Channel.afterBad (v : Int) (n : Nat) : Channel :=
  ⟨if n = 0 then .good else if n ≤ 50 then .held else .unknown, some v, min n 51, .no⟩

theorem Channel.afterBad_held (v : Int) {n : Nat} (h0 : 0 < n) (h : n ≤ 50) :
    Channel.afterBad v n = ⟨.held, some v, n, .no⟩ := by
  simp [Channel.afterBad, h0.ne', h, show n ≤ 51 by omega]

theorem Channel.afterBad_over (v : Int) {n : Nat} (h : 50 < n) :
    Channel.afterBad v n = ⟨.unknown, some v, 51, .no⟩ := by
  simp [Channel.afterBad, h.not_ge, show n ≠ 0 by omega, show 51 ≤ n from h]

/-- One more out-of-range scan: the hold begins, goes on, ends after 50 scans, and is over. -/
theorem evalChannel_afterBad {e : Entry} {code : Nat} (h : goodCode e code = false) (v : Int) (n : Nat) :
    evalChannel e code (.afterBad v n) = (.afterBad v (n + 1), some v) := by
  obtain rfl | ⟨h0, hn⟩ | rfl | hn : n = 0 ∨ (0 < n ∧ n < 50) ∨ n = 50 ∨ 50 < n := by omega
  · exact evalChannel_begins_hold h rfl rfl
  · rw [Channel.afterBad_held v h0 hn.le, Channel.afterBad_held v (by omega) hn]
    exact evalChannel_holds h rfl rfl hn
  · exact evalChannel_ends_hold h rfl rfl le_rfl
  · rw [Channel.afterBad_over v hn, Channel.afterBad_over v (by omega)]
    exact evalChannel_unknown h rfl rfl

theorem foldl_evalChannel_bad {e : Entry} {bad : Nat → Nat} (h : ∀ k, goodCode e (bad k) = false)
    (v : Int) (n : Nat) :
    (List.range n).foldl (fun ch k => (evalChannel e (bad k) ch).1) ⟨.good, some v, 0, .no⟩ =
      .afterBad v n := by
  induction n with
  | zero => rfl
  | succ n ih => rw [List.range_succ, List.foldl_append, ih]; simp [evalChannel_afterBad (h n)]

/-! ## Pulse inputs (R9 to R12) -/

theorem pulseTaken_stopped {r : PulseRec} (h : r.state = .stopped) (now : Micros) (holdMax : Nat) :
    pulseTaken now holdMax r = ⟨.creeping, some now, none, .running (now + holdMax * 1000)⟩ := by
  simp [pulseTaken, h, holdDuration, Timer.started]

theorem pulseTaken_moving {r : PulseRec} {now last : Micros} (h : r.state ≠ .stopped)
    (hl : r.last = some last) (hlt : last < now) (holdMax : Nat) :
    pulseTaken now holdMax r = ⟨.running, some now, some (now - last),
      .running (now + min (holdMax * 1000) (max 20000 ((now - last) * 5 / 2)))⟩ := by
  have hp : max 1 (now - last) = now - last := Nat.max_eq_right (Nat.sub_pos_of_lt hlt)
  cases hs : r.state with
  | stopped => exact absurd hs h
  | creeping => simp [pulseTaken, hs, hl, hp, holdDuration, holdFloor, Timer.started]
  | running => simp [pulseTaken, hs, hl, hp, holdDuration, holdFloor, Timer.started]

/-- The Input Scan Unit after a pulse at `time`: a ROAD pulse also ends the standstill (R12). -/
theorem isuPulse_beginAt (s : State) (time : Micros) (p : PulseIn) :
    isuPulse (s.beginAt time) p = { s.isu with
      pulses := s.isu.pulses.set p (pulseTaken time (s.holdMaxMs p) (s.isu.pulses.get p))
      stillTimer := if p = .road then .stopped else s.isu.stillTimer
      roadStill := if p = .road then false else s.isu.roadStill } := by
  cases p <;> rfl

/-- The Input Scan Unit after a hold timer expiry at `time`: ROAD begins to stand still (R12). -/
theorem isuHoldExpired_beginAt (s : State) (time : Micros) (p : PulseIn) :
    isuHoldExpired (s.beginAt time) p = { s.isu with
      pulses := s.isu.pulses.set p ⟨.stopped, none, none, .stopped⟩
      stillTimer := if p = .road then .running (time + s.stillMs * 1000) else s.isu.stillTimer
      stoppedAt := if p = .road then time else s.isu.stoppedAt } := by
  cases p <;> rfl

theorem isuStillExpired_beginAt {s : State} (h : s.isu.pulses.road.state = .stopped) (time : Micros) :
    isuStillExpired (s.beginAt time) = { s.isu with stillTimer := .stopped, roadStill := true } := by
  simp [isuStillExpired, h]

/-- A command whose own event changes the Input Scan Unit and publishes nothing ends there. -/
theorem State.finish_isu {s : State} (hr : s.lnk.restart = none) (time : Micros) (i : Isu) :
    ({ s.beginAt time with isu := i } : State).finish =
      { s with now := time, agenda := [], port := s.port.serve, isu := i } :=
  State.finish_quiet rfl hr

theorem exec_pulse {s : State} (hr : s.lnk.restart = none) (dt : Micros) (pin : PulseIn) :
    exec (.pulse dt pin) s = .next { s with
      now := s.now + dt, agenda := [], port := s.port.serve
      isu := isuPulse (s.beginAt (s.now + dt)) pin } := by
  show execPulse dt pin s = _
  rw [execPulse, after_eq, State.finish_isu hr]

theorem exec_holdTimerExpiry {s : State} (hr : s.lnk.restart = none) {pin : PulseIn} {due : Micros}
    (h : (s.isu.pulses.get pin).hold = .running due) :
    exec (.holdTimerExpiry pin) s = .next { s with
      now := max s.now due, agenda := [], port := s.port.serve
      isu := isuHoldExpired (s.beginAt (max s.now due)) pin } := by
  show execHoldTimerExpiry pin s = _
  rw [execHoldTimerExpiry, atExpiry_running h, State.finish_isu hr]

theorem exec_stillTimerExpiry {s : State} (hr : s.lnk.restart = none) {due : Micros}
    (h : s.isu.stillTimer = .running due) :
    exec .stillTimerExpiry s = .next { s with
      now := max s.now due, agenda := [], port := s.port.serve
      isu := isuStillExpired (s.beginAt (max s.now due)) } := by
  show execStillTimerExpiry s = _
  rw [execStillTimerExpiry, atExpiry_running h, State.finish_isu hr]

/-! ## The published speed (R11) -/

theorem speedOf_not_running {r : PulseRec} (h : r.state ≠ .running) (inUse : Option Profile) (p : PulseIn) :
    speedOf inUse p r = some 0 := by
  cases hs : r.state with
  | stopped => simp [speedOf, hs]
  | creeping => simp [speedOf, hs]
  | running => exact absurd hs h

theorem pubPulse_period (inUse : Option Profile) (p : PulseIn) (r : PulseRec) :
    (pubPulse inUse p r).period = if r.state = .running then r.period else none := rfl

section
variable {r : PulseRec} {period : Micros}

theorem speedOf_unconfigured (h : r.state = .running) (hp : r.period = some period) (p : PulseIn) :
    speedOf none p r = none := by
  simp [speedOf, h, hp]

theorem speedOf_road (h : r.state = .running) (hp : r.period = some period) (q : Profile) :
    speedOf (some q) .road r =
      some (min 1500 (divNearest 36000000000 (period * q.pulses.road.perKm)).toNat) := by
  simp [speedOf, h, hp, saturate, PerPulse.get]

theorem speedOf_shaft (h : r.state = .running) (hp : r.period = some period) (q : Profile)
    {p : PulseIn} (hne : p ≠ .road) :
    speedOf (some q) p r =
      some (min 6000 (divNearest 60000000 (period * (q.pulses.get p).perRev)).toNat) := by
  cases p with
  | road => exact absurd rfl hne
  | engine => simp [speedOf, h, hp, saturate]
  | mainPump => simp [speedOf, h, hp, saturate]
  | auxPump => simp [speedOf, h, hp, saturate]

end

/-! ## The statements on channels and pulse inputs -/

/-- Settles O15: the pulse changes the Input Scan Unit alone, and publishes nothing. -/
theorem pulseCompletes : Obligations.PulseCompletes := by
  intro dt pin s hr
  refine ⟨fun hs => ?_, fun last hs hl hlt => ?_⟩
  · rw [exec_pulse hr, isuPulse_beginAt, pulseTaken_stopped hs]
  · rw [exec_pulse hr, isuPulse_beginAt, pulseTaken_moving hs hl hlt]

/-- Settles O16: both expiries change the Input Scan Unit alone, and publish nothing. -/
theorem holdAndStillExpiriesComplete : Obligations.HoldAndStillExpiriesComplete := by
  intro s due hr
  refine ⟨fun pin h => ?_, fun h hroad => ?_⟩
  · rw [exec_holdTimerExpiry hr h, isuHoldExpired_beginAt]
  · rw [exec_stillTimerExpiry hr h, isuStillExpired_beginAt hroad]

/-- Settles O18: after `n` out-of-range scans a channel that was GOOD stands at `Channel.afterBad`. -/
theorem channelHoldsForFiftyScans : Obligations.ChannelHoldsForFiftyScans := by
  intro e
  refine ⟨goodCode_iff e, fun code ch h => evalChannel_good h ch, fun code ch h => ?_, ?_⟩
  · exact ⟨evalChannel_unseeded h, fun v hl => ⟨evalChannel_begins_hold h hl, evalChannel_holds h hl,
      fun hh hn => evalChannel_ends_hold h hl hh hn.ge, evalChannel_unknown h hl⟩⟩
  · intro v bad h after n
    have hn : after n = .afterBad v n := foldl_evalChannel_bad h v n
    rw [hn, evalChannel_afterBad (h n)]
    exact ⟨rfl, rfl, rfl, rfl⟩

/-- Settles O19, from the interval of a rounded quotient and the clamp of a role with a unit range. -/
theorem conversionRoundsToNearest : Obligations.ConversionRoundsToNearest :=
  ⟨fun a _ hb => ⟨divNearest_within_half hb a, fun _ h ha => divNearest_half hb ha h, divNearest_neg hb a⟩,
    fun _ _ _ h hc => ⟨convert_mem h, convert_loCode h hc, convert_hiCode h hc⟩⟩

/-- Settles O20, by the cases of R11. -/
theorem publishedSpeedFollowsThePeriod : Obligations.PublishedSpeedFollowsThePeriod := by
  intro inUse pin r
  refine ⟨fun h => ⟨speedOf_not_running h inUse pin, if_neg h⟩, fun period h hp => ⟨?_, ?_, ?_, ?_⟩⟩
  · rw [pubPulse_period, if_pos h, hp]
  · rintro rfl
    exact speedOf_unconfigured h hp pin
  · rintro q rfl rfl
    exact speedOf_road h hp q
  · rintro q rfl hne
    exact speedOf_shaft h hp q hne

end Sys2Proof.Machine

end

section
/-! PROOFS. What the chain of publications leaves unchanged when none of them changes the configuration. -/

namespace Sys2Proof.Machine

/-! ## Which publications a block hands over

A change of the configuration state is what makes the Input Scan Unit and the Tank Gauge Unit act, and only the Profile
Unit publishes one, at an end of its own port operation or at a request. -/

/-- A change of the configuration state (R180). -/
def Event.isConf : Event → Bool
  | .conf _ _ => true
  | _ => false

/-- No publication of the list is a change of the configuration state. -/
def NoConf (events : List (Block × Event)) : Prop := ∀ x ∈ events, x.2.isConf = false

@[simp] theorem noConf_nil : NoConf [] := by simp [NoConf]

@[simp] theorem noConf_cons {x : Block × Event} {xs : List (Block × Event)} :
    NoConf (x :: xs) ↔ x.2.isConf = false ∧ NoConf xs := by simp [NoConf]

@[simp] theorem noConf_append {xs ys : List (Block × Event)} :
    NoConf (xs ++ ys) ↔ NoConf xs ∧ NoConf ys := by simp [NoConf, or_imp, forall_and]

theorem NoConf.toBlocks {e : Event} (h : e.isConf = false) (bs : List Block) : NoConf (toBlocks bs e) := by
  simp [NoConf, Machine.toBlocks, h]

theorem NoConf.unlessEmpty {α : Type} {e : List α → Event} {xs : List α} (h : (e xs).isConf = false)
    (b : Block) : NoConf (unlessEmpty b e xs) := by
  cases xs with
  | nil => exact noConf_nil
  | cons x xs => simpa [Machine.unlessEmpty] using h

theorem NoConf.ite {p : Prop} [Decidable p] {xs ys : List (Block × Event)} (hx : NoConf xs)
    (hy : NoConf ys) : NoConf (if p then xs else ys) := by
  split
  · exact hx
  · exact hy

theorem lbuOut_noConf (s : State) (a : Lbu) (r : List RecordBody) : NoConf (lbuOut s a r).events := by
  simp only [lbuOut, noConf_append]
  exact ⟨⟨.unlessEmpty rfl _, .unlessEmpty rfl _⟩, .ite (.toBlocks rfl _) noConf_nil⟩

theorem deuOut_noConf (u : Deu) (w : DeuWork) : NoConf (deuOut u w).events := by
  have passed : NoConf (w.passed.map fun d => (.lku, .started d)) := by simp [NoConf, Event.isConf]
  simp only [deuOut, noConf_append]
  exact ⟨⟨⟨⟨.unlessEmpty rfl _, .unlessEmpty rfl _⟩, .unlessEmpty rfl _⟩, passed⟩,
    .ite (.toBlocks rfl _) noConf_nil⟩

theorem ppuOut_noConf (u : Ppu) (w : PpuWork) : NoConf (ppuOut u w).events := by
  simp only [ppuOut, noConf_append]
  exact ⟨⟨.unlessEmpty rfl _, .unlessEmpty rfl _⟩, .ite (by simp [Event.isConf]) noConf_nil⟩

theorem lkuOut_noConf (s : State) (a b : Lku) (w : LkuWork) : NoConf (lkuOut s a b w).events := by
  simp only [lkuOut, noConf_append]
  exact ⟨.unlessEmpty rfl _, .ite noConf_nil (.toBlocks rfl _)⟩

theorem tauOut_noConf (u : Tau) (w : TauWork) : NoConf (tauOut u w).events :=
  .ite noConf_nil (by simp [Event.isConf])

theorem drcOut_noConf (w : DrcWork) : NoConf (drcOut w).events := by
  simp only [drcOut, noConf_append]
  refine ⟨?_, .ite (by simp [Event.isConf]) noConf_nil⟩
  cases w.reply <;> simp [Event.isConf]

/-! ## What a block does with an event: it lets it pass, or commits its work -/

theorem State.lbuEvent_cases (s : State) (e : Event) :
    s.lbuEvent e = s ∨ ∃ b r, s.lbuEvent e = s.lbuTakes b r := by
  cases e with
  | inputs | gauges | conf _ _ => exact .inr ⟨_, _, rfl⟩
  | lockouts changed =>
    rw [State.lbuEvent]
    split
    · exact .inr ⟨_, _, rfl⟩
    · exact .inl rfl
  | _ => exact .inl rfl

theorem State.deuEvent_cases (s : State) (e : Event) :
    s.deuEvent e = s ∨ ∃ w, s.deuEvent e = s.deuCommit w := by
  cases e with
  | inputs | supply _ _ | lockouts _ | conf _ _ => exact .inr ⟨_, rfl⟩
  | _ => exact .inl rfl

theorem State.ppuEvent_cases (s : State) (e : Event) :
    s.ppuEvent e = s ∨ ∃ w, s.ppuEvent e = s.ppuCommit w := by
  cases e with
  | inputs | gauges | drives | conf _ _ | alarms _ => exact .inr ⟨_, rfl⟩
  | levels bandChanged _ _ =>
    cases bandChanged with
    | true => exact .inr ⟨_, rfl⟩
    | false => exact .inl rfl
  | _ => exact .inl rfl

theorem State.lkuEvent_cases (s : State) (e : Event) :
    s.lkuEvent e = s ∨ ∃ w, s.lkuEvent e = s.lkuCommit w := by
  cases e with
  | inputs | gauges | levels _ _ _ | drives | watches | authority | supply _ _ | conf _ _ | started _ =>
    exact .inr ⟨_, rfl⟩
  | _ => exact .inl rfl

theorem State.tauEvent_cases (s : State) (e : Event) :
    s.tauEvent e = s ∨ ∃ w, s.tauEvent e = s.tauCommit w := by
  cases e with
  | inputs | drives | cuts _ => exact .inr ⟨_, rfl⟩
  | lockouts changed =>
    rw [State.tauEvent]
    split
    · exact .inr ⟨_, rfl⟩
    · exact .inl rfl
  | _ => exact .inl rfl

theorem State.drcEvent_cases (s : State) (e : Event) :
    s.drcEvent e = s ∨ ∃ w, s.drcEvent e = s.drcCommit w := by
  cases e with
  | gauges | records _ | drives | supply _ _ | conf _ _ | restartAsked => exact .inr ⟨_, rfl⟩
  | levels _ valveChanged _ =>
    cases valveChanged with
    | true => exact .inr ⟨_, rfl⟩
    | false => exact .inl rfl
  | _ => exact .inl rfl

/-- The Profile Unit acts on the published inputs alone. -/
theorem State.pfuEvent_cases (s : State) (e : Event) :
    s.pfuEvent e = s ∨ s.pfuEvent e = s.pfuCommit (pfuInputs s { pfu := s.pfu }) := by
  cases e with
  | inputs => exact .inr rfl
  | _ => exact .inl rfl

/-- The Link Unit takes a reply, or hears that the recorder is ready for the restart that is pending. -/
theorem State.lnkEvent_cases (s : State) (e : Event) :
    s.lnkEvent e = s ∨ (∃ body, s.lnkEvent e = s.answer body) ∨
    ∃ r, s.lnk.restart = some r ∧
      s.lnkEvent e = { s with lnk := { s.lnk with restart := some { r with recorderReady := true } } } := by
  cases e with
  | reply body => exact .inr (.inl ⟨body, rfl⟩)
  | restartReady =>
    cases hr : s.lnk.restart with
    | none => exact .inl (by simp [State.lnkEvent, hr])
    | some r => exact .inr (.inr ⟨r, rfl, by simp [State.lnkEvent, hr]⟩)
  | _ => exact .inl rfl

/-! ## The supply monitor's share of an input publication (R185) -/

/-- The supply monitor's counts after one publication. -/
def PfuWork.counted (w : PfuWork) (mv : Nat) : PfuWork :=
  { w with pfu := { w.pfu with
    lowCount := countRun (decide (mv < 8500)) w.pfu.lowCount
    highCount := countRun (decide (10500 ≤ mv)) w.pfu.highCount } }

/-- The supply monitor counts, and may change the supply state. -/
theorem pfuInputs_cases (s : State) (w : PfuWork) :
    pfuInputs s w = w.counted s.isu.pub.supplyMv ∨
    ∃ after timer, pfuInputs s w = (w.counted s.isu.pub.supplyMv).supplyTo s after timer := by
  unfold pfuInputs
  dsimp only
  split
  case h_1 | h_2 | h_3 =>
    split
    · exact .inr ⟨_, _, rfl⟩
    · exact .inl rfl

theorem PfuWork.supplyTo_noConf {w : PfuWork} (h : NoConf w.events) (s : State) (after : SupplyState)
    (timer : Timer) : NoConf (w.supplyTo s after timer).events := by
  have published (before : SupplyState) : NoConf (toBlocks [.deu, .lku, .drc] (.supply before after)) :=
    .toBlocks rfl _
  have record (p : Prop) [Decidable p] (bodies) : NoConf (if p then [(.drc, .records bodies)] else []) :=
    .ite (by simp [Event.isConf]) noConf_nil
  simp only [PfuWork.supplyTo, noConf_append]
  exact ⟨h, .ite (noConf_append.2 ⟨published _, record _ _⟩) (noConf_append.2 ⟨record _ _, published _⟩)⟩

theorem pfuInputs_noConf (s : State) : NoConf (pfuOut (pfuInputs s { pfu := s.pfu })).events := by
  have reply : (pfuInputs s { pfu := s.pfu }).reply = none := by
    obtain h | ⟨_, _, h⟩ := pfuInputs_cases s { pfu := s.pfu } <;> rw [h] <;> rfl
  have events : NoConf (pfuInputs s { pfu := s.pfu }).events := by
    obtain h | ⟨after, timer, h⟩ := pfuInputs_cases s { pfu := s.pfu }
    · rw [h]; exact noConf_nil
    · rw [h]; exact PfuWork.supplyTo_noConf noConf_nil s after timer
  simpa [pfuOut, reply] using events

/-! ## What the chain of publications leaves unchanged when none is a change of configuration -/

/-- What stands in `t` as in `s` however the neighbours take publications that change no configuration: the time, the
inputs, the gauges, the profile, the receiver, the mask, the fault counters and the queue of commands. The Link Unit may
complete a restart that is pending, but none arises. -/
structure Carried (s t : State) : Prop where
  now : t.now = s.now
  ratePinHigh : t.ratePinHigh = s.ratePinHigh
  isu : t.isu = s.isu
  tgu : t.tgu = s.tgu
  pending : t.pending = s.pending
  conf : t.pfu.conf = s.pfu.conf
  inUse : t.pfu.inUse = s.pfu.inUse
  active : t.pfu.active = s.pfu.active
  edit : t.pfu.edit = s.pfu.edit
  task : t.pfu.task = s.pfu.task
  rx : t.lnk.rx = s.lnk.rx
  gapTimer : t.lnk.gapTimer = s.lnk.gapTimer
  waiting : t.lnk.waiting = s.lnk.waiting
  mask : t.lnk.mask = s.lnk.mask
  faults : t.lnk.faults = s.lnk.faults
  baudHigh : t.lnk.baudHigh = s.lnk.baudHigh
  restart : t.lnk.restart.isSome = s.lnk.restart.isSome

theorem Carried.refl (s : State) : Carried s s := by constructor <;> rfl

theorem Carried.trans {s t u : State} (h : Carried s t) (k : Carried t u) : Carried s u where
  now := k.now.trans h.now
  ratePinHigh := k.ratePinHigh.trans h.ratePinHigh
  isu := k.isu.trans h.isu
  tgu := k.tgu.trans h.tgu
  pending := k.pending.trans h.pending
  conf := k.conf.trans h.conf
  inUse := k.inUse.trans h.inUse
  active := k.active.trans h.active
  edit := k.edit.trans h.edit
  task := k.task.trans h.task
  rx := k.rx.trans h.rx
  gapTimer := k.gapTimer.trans h.gapTimer
  waiting := k.waiting.trans h.waiting
  mask := k.mask.trans h.mask
  faults := k.faults.trans h.faults
  baudHigh := k.baudHigh.trans h.baudHigh
  restart := k.restart.trans h.restart

/-- Notices and publications handed over touch the notice queue and the agenda alone. -/
theorem Carried.emit {s t : State} (h : Carried s t) (o : Out) : Carried s (t.emit o) := by
  obtain ⟨hrx, hgap, -, hwaiting, hrestart, hmask, hfaults, hbaud⟩ :=
    Lnk.posts_frame o.news t.seconds t.lnk
  exact h.trans
    { now := rfl, ratePinHigh := rfl, isu := rfl, tgu := rfl, pending := rfl, conf := rfl, inUse := rfl
      active := rfl, edit := rfl, task := rfl, rx := hrx, gapTimer := hgap, waiting := hwaiting
      mask := hmask, faults := hfaults, baudHigh := hbaud, restart := congrArg Option.isSome hrestart }

/-- What a delivery comes to: what `Carried` names stands, and the publications handed over change no
configuration. -/
def PassedOn (s t : State) : Prop :=
  Carried s t ∧ ∃ events, t.agenda = s.agenda ++ events ∧ NoConf events

theorem PassedOn.refl (s : State) : PassedOn s s := ⟨.refl s, [], by simp, noConf_nil⟩

theorem PassedOn.emit (s t : State) (h : Carried s t) (ha : t.agenda = s.agenda) {o : Out}
    (ho : NoConf o.events) : PassedOn s (t.emit o) :=
  ⟨h.emit o, o.events, by rw [State.emit_agenda, ha], ho⟩

theorem State.lbuTakes_passedOn (s : State) (b : Lbu) (r : List RecordBody) :
    PassedOn s (s.lbuTakes b r) :=
  .emit s { s with lbu := b } (by constructor <;> rfl) rfl (lbuOut_noConf s b r)

theorem State.deuCommit_passedOn (s : State) (w : DeuWork) : PassedOn s (s.deuCommit w) :=
  .emit s { s with deu := w.deu } (by constructor <;> rfl) rfl (deuOut_noConf s.deu w)

theorem State.ppuCommit_passedOn (s : State) (w : PpuWork) : PassedOn s (s.ppuCommit w) :=
  .emit s { s with ppu := ppuSettled w } (by constructor <;> rfl) rfl (ppuOut_noConf s.ppu w)

theorem State.lkuCommit_passedOn (s : State) (w : LkuWork) : PassedOn s (s.lkuCommit w) :=
  .emit s { s with lku := lkuSettled s w.lku } (by constructor <;> rfl) rfl
    (lkuOut_noConf s s.lku (lkuSettled s w.lku) w)

theorem State.tauCommit_passedOn (s : State) (w : TauWork) : PassedOn s (s.tauCommit w) :=
  .emit s { s with tau := w.settled.tau } (by constructor <;> rfl) rfl (tauOut_noConf s.tau w.settled)

theorem State.drcCommit_passedOn (s : State) (w : DrcWork) : PassedOn s (s.drcCommit w) :=
  .emit s { s with drc := w.drc, port := s.port.ask .drc w.ask } (by constructor <;> rfl) rfl
    (drcOut_noConf w)

/-- The Profile Unit takes an input publication. -/
theorem State.pfuInputs_passedOn (s : State) :
    PassedOn s (s.pfuCommit (pfuInputs s { pfu := s.pfu })) := by
  refine .emit s { s with
    pfu := (pfuInputs s { pfu := s.pfu }).pfu
    port := s.port.ask .pfu (pfuInputs s { pfu := s.pfu }).ask } ?_ rfl (pfuInputs_noConf s)
  obtain h | ⟨_, _, h⟩ := pfuInputs_cases s { pfu := s.pfu } <;> rw [h] <;> constructor <;> rfl

theorem State.answer_passedOn (s : State) (body : List Byte) : PassedOn s (s.answer body) := by
  refine ⟨?_, [], by simp, noConf_nil⟩
  cases hs : s.lnk.service <;> constructor <;> simp [Lnk.answer, hs]

theorem State.lbuEvent_passedOn (s : State) (e : Event) : PassedOn s (s.lbuEvent e) := by
  obtain h | ⟨b, r, h⟩ := s.lbuEvent_cases e <;> rw [h]
  · exact .refl s
  · exact s.lbuTakes_passedOn b r

theorem State.deuEvent_passedOn (s : State) (e : Event) : PassedOn s (s.deuEvent e) := by
  obtain h | ⟨w, h⟩ := s.deuEvent_cases e <;> rw [h]
  · exact .refl s
  · exact s.deuCommit_passedOn w

theorem State.ppuEvent_passedOn (s : State) (e : Event) : PassedOn s (s.ppuEvent e) := by
  obtain h | ⟨w, h⟩ := s.ppuEvent_cases e <;> rw [h]
  · exact .refl s
  · exact s.ppuCommit_passedOn w

theorem State.lkuEvent_passedOn (s : State) (e : Event) : PassedOn s (s.lkuEvent e) := by
  obtain h | ⟨w, h⟩ := s.lkuEvent_cases e <;> rw [h]
  · exact .refl s
  · exact s.lkuCommit_passedOn w

theorem State.tauEvent_passedOn (s : State) (e : Event) : PassedOn s (s.tauEvent e) := by
  obtain h | ⟨w, h⟩ := s.tauEvent_cases e <;> rw [h]
  · exact .refl s
  · exact s.tauCommit_passedOn w

theorem State.drcEvent_passedOn (s : State) (e : Event) : PassedOn s (s.drcEvent e) := by
  obtain h | ⟨w, h⟩ := s.drcEvent_cases e <;> rw [h]
  · exact .refl s
  · exact s.drcCommit_passedOn w

theorem State.pfuEvent_passedOn (s : State) (e : Event) : PassedOn s (s.pfuEvent e) := by
  obtain h | h := s.pfuEvent_cases e <;> rw [h]
  · exact .refl s
  · exact s.pfuInputs_passedOn

theorem State.lnkEvent_passedOn (s : State) (e : Event) : PassedOn s (s.lnkEvent e) := by
  obtain h | ⟨body, h⟩ | ⟨r, hr, h⟩ := s.lnkEvent_cases e <;> rw [h]
  · exact .refl s
  · exact s.answer_passedOn body
  · exact ⟨by constructor <;> simp [hr], [], by simp, noConf_nil⟩

/-- A publication that changes no configuration, taken by any block. -/
theorem State.deliver_passedOn {e : Event} (h : e.isConf = false) (s : State) (b : Block) :
    PassedOn s (s.deliver b e) := by
  cases b with
  | isu =>
    cases e with
    | conf _ _ => cases h
    | _ => exact .refl s
  | tgu =>
    cases e with
    | conf _ _ => cases h
    | _ => exact .refl s
  | lbu => exact s.lbuEvent_passedOn e
  | deu => exact s.deuEvent_passedOn e
  | ppu => exact s.ppuEvent_passedOn e
  | lku => exact s.lkuEvent_passedOn e
  | tau => exact s.tauEvent_passedOn e
  | drc => exact s.drcEvent_passedOn e
  | lnk => exact s.lnkEvent_passedOn e
  | pfu => exact s.pfuEvent_passedOn e

/-- However long the chain of publications, it carries what `Carried` names. -/
theorem Carried.settle (n : Nat) {s : State} (h : NoConf s.agenda) : Carried s (settle n s) := by
  refine settle_keeps (Carried s) (fun x => x.2.isConf = false) ?_ ?_ n s (.refl s) h
  · exact fun t ht => ht.trans (by constructor <;> rfl)
  · intro t b e left hleft he ht
    obtain ⟨carried, events, hagenda, hevents⟩ := State.deliver_passedOn he
      { t with agenda := left, schedule := t.schedule.drop 1 } b
    refine ⟨(ht.trans (by constructor <;> rfl)).trans carried, ?_⟩
    rw [hagenda]
    exact noConf_append.2 ⟨hleft, hevents⟩

/-- A command that changes no configuration, with no restart pending, carries what `Carried` names to its end. -/
theorem Carried.finish {s : State} (h : NoConf s.agenda) (hr : s.lnk.restart = none) :
    Carried s s.finish := by
  have carried := Carried.settle Config.settleBound h
  have hr' : (Machine.settle Config.settleBound s).lnk.restart = none := by
    simpa [hr] using carried.restart
  rwa [State.finish, State.restartIfDue_none hr']

end Sys2Proof.Machine

end

section
/-! PROOFS. The scan. -/

namespace Sys2Proof.Machine

/-! ## What a scan makes of each channel and each discrete input (R1, R2, R14 to R16) -/

theorem takeSample_eq (scanned sample : Bool) (d : Debounce) :
    takeSample scanned sample d =
      if scanned = false then ⟨sample, 0⟩
      else if sample = d.level then ⟨d.level, 0⟩
      else if d.count < 2 then ⟨d.level, d.count + 1⟩ else ⟨sample, 0⟩ := by
  cases scanned <;> rfl

theorem scanRows_getElem? {i : Isu} {codes : List (BitVec 12)} {n : Nat} {e : Entry} {c : BitVec 12}
    {ch : Channel} (hn : n < 15) (he : i.entries[n]? = some e) (hc : codes[n]? = some c)
    (hch : i.channels[n]? = some ch) : (scanRows i codes)[n]? = some (n, e, c.toNat, ch) := by
  simp [scanRows, List.getElem?_zip_eq_some, hn, he, hc, hch]

section
variable {s : State} {codes : List (BitVec 12)} {samples : BitVec 12} {n : Nat}

theorem isuScan_channels_getElem? {e : Entry} {c : BitVec 12} {ch : Channel} (hn : n < 15)
    (he : s.isu.entries[n]? = some e) (hc : codes[n]? = some c) (hch : s.isu.channels[n]? = some ch) :
    (isuScan s codes samples).channels[n]? = some (evalChannel e c.toNat ch).1 := by
  simp [isuScan, scanRows_getElem? hn he hc hch]

theorem isuScan_pubChannels_getElem? {e : Entry} {c : BitVec 12} {ch : Channel} (hn : n < 15)
    (he : s.isu.entries[n]? = some e) (hc : codes[n]? = some c) (hch : s.isu.channels[n]? = some ch) :
    (isuScan s codes samples).pub.channels[n]? =
      some ⟨e.role, c.toNat, (evalChannel e c.toNat ch).2, (evalChannel e c.toNat ch).1.health⟩ := by
  simp [isuScan, scanRows_getElem? hn he hc hch]

theorem isuScan_debounce_getElem? {d : Debounce} (hn : n < 12) (hd : s.isu.debounce[n]? = some d) :
    (isuScan s codes samples).debounce[n]? = some (takeSample s.isu.scanned (samples.getLsbD n) d) := by
  simp [isuScan, samplesOf, List.getElem?_zip_eq_some, hn, hd]

theorem isuScan_discretes_getElem? {d : Debounce} (hn : n < 12) (hd : s.isu.debounce[n]? = some d) :
    (isuScan s codes samples).pub.discretes[n]? =
      some ⟨(takeSample s.isu.scanned (samples.getLsbD n) d).level,
        s.isu.scanned && d.level != (takeSample s.isu.scanned (samples.getLsbD n) d).level⟩ := by
  show (((s.isu.debounce.zip (isuScan s codes samples).debounce).map _)[n]?) = _
  simp [List.getElem?_zip_eq_some, hd, isuScan_debounce_getElem? hn hd]

theorem discreteIndex_lt (d : Discrete) : discreteIndex d < 12 := by
  cases d <;> decide

/-- The level published of an input is the one the scan debounced, from which the split position is formed. -/
theorem isuScan_level {t : State} (h : s.isu.debounce.length = 12) (ht : t.isu = isuScan s codes samples)
    (d : Discrete) :
    t.level d = (((isuScan s codes samples).debounce[discreteIndex d]?).map (·.level)).getD false := by
  have hn := discreteIndex_lt d
  have hd := List.getElem?_eq_getElem (l := s.isu.debounce) (h ▸ hn)
  rw [State.level, ht, isuScan_discretes_getElem? hn hd, isuScan_debounce_getElem? hn hd]
  rfl

theorem isuScan_split {t : State} (h : s.isu.debounce.length = 12) (ht : t.isu = isuScan s codes samples) :
    (isuScan s codes samples).pub.split = splitOf (t.level .splitRoadPos) (t.level .splitPumpPos) := by
  rw [isuScan_level h ht, isuScan_level h ht]
  rfl

end

/-- A scan taken with no restart pending: its publication changes no configuration, so the Input Scan Unit stands at
the end of the command as the scan left it. -/
theorem exec_scan {s : State} {due : Micros} (h : s.isu.scanTimer = .running due)
    (hr : s.lnk.restart = none) (codes : Vector (BitVec 12) 16) (samples : BitVec 12) :
    ∃ t, exec (.scan codes samples) s = .next t ∧
      Carried { s.beginAt (max s.now due) with isu := isuScan s codes.toList samples } t := by
  have own : Carried { s.beginAt (max s.now due) with isu := isuScan s codes.toList samples }
      ((s.beginAt (max s.now due)).isuScanned codes.toList samples) := (Carried.refl _).emit _
  have quiet : NoConf ((s.beginAt (max s.now due)).isuScanned codes.toList samples).agenda := .toBlocks rfl _
  have restart : ((s.beginAt (max s.now due)).isuScanned codes.toList samples).lnk.restart = none := by
    simpa [hr] using own.restart
  refine ⟨_, ?_, own.trans (Carried.finish quiet restart)⟩
  show execScan codes samples s = _
  rw [execScan, atExpiry_running h]

/-- Settles O17: a scan's neighbours leave the Input Scan Unit as it left itself, so each clause is one about
`isuScan`. -/
theorem scanCompletes : Obligations.ScanCompletes := by
  intro codes samples s due htimer hr _ _ hdebounce
  obtain ⟨t, ht, carried⟩ := exec_scan htimer hr codes samples
  have hisu : t.isu = isuScan s codes.toList samples := carried.isu
  have hcode (n : Nat) (hn : n < 16) : codes.toList[n]? = some codes[n] := by simp [hn]
  have hsupply : (codes.toList.getD 15 0#12) = codes[15] := by simp
  refine ⟨t, ht, ?timer, congrArg Isu.scanned hisu, (congrArg Isu.pulses hisu :),
    (congrArg Isu.stillTimer hisu :), (congrArg Isu.roadStill hisu :), (congrArg Isu.entries hisu :),
    carried.tgu, carried.conf, carried.inUse,
    carried.active, carried.edit, carried.pending, carried.mask, carried.faults, carried.rx, ?channels,
    ?supplyCode, ?supplyMv, congrArg (·.pub.supplyHealth) hisu, ?pulses, congrArg (·.pub.roadStill) hisu,
    ?discretes, ?split⟩
  case timer =>
    rw [hisu, isuScan, htimer]
    rfl
  case channels =>
    intro n e ch hn he hch
    rw [hisu]
    exact ⟨isuScan_channels_getElem? hn he (hcode n (by omega)) hch,
      isuScan_pubChannels_getElem? hn he (hcode n (by omega)) hch⟩
  case supplyCode => rw [hisu, ← hsupply]; rfl
  case supplyMv => rw [hisu, ← hsupply]; rfl
  case pulses =>
    intro p
    rw [State.pulse, hisu]
    cases p <;> rfl
  case discretes =>
    intro n d hn hd x after
    have hafter : after = takeSample s.isu.scanned x d := (takeSample_eq _ _ d).symm
    rw [hisu, hafter]
    exact ⟨isuScan_debounce_getElem? hn hd, isuScan_discretes_getElem? hn hd⟩
  case split =>
    rw [hisu, isuScan_split hdebounce hisu]
    cases t.level .splitRoadPos <;> cases t.level .splitPumpPos <;> rfl

end Sys2Proof.Machine

end

section
/-! PROOFS. The slosh filter, the strapping table, the usable volume and the time to empty. -/

namespace Sys2Proof.Machine

/-! ## Rounding (5.2) -/

/-- Nearest rounding never falls as the dividend rises. -/
theorem divNearest_mono {a b c : Int} (hb : 0 < b) (h : a ≤ c) : divNearest a b ≤ divNearest c b := by
  obtain rfl | h := h.eq_or_lt
  · exact le_rfl
  · have ha := divNearest_within_half hb a
    have hc := divNearest_within_half hb c
    by_contra hlt
    have : b * (divNearest c b + 1) ≤ b * divNearest a b := mul_le_mul_of_nonneg_left (by omega) hb.le
    rw [mul_add] at this
    omega

/-- Between two multiples of the divisor the rounded quotient lies between their factors. -/
theorem divNearest_mem {a b lo hi : Int} (hb : 0 < b) (hlo : b * lo ≤ a) (hhi : a ≤ b * hi) :
    lo ≤ divNearest a b ∧ divNearest a b ≤ hi := by
  have hl := divNearest_mono hb hlo
  have hh := divNearest_mono hb hhi
  rw [divNearest_mul hb] at hl hh
  exact ⟨hl, hh⟩

theorem divTrunc_neg (a b : Int) : divTrunc (-a) b = -divTrunc a b := Int.neg_tdiv a b

theorem divTrunc_of_nonneg {a : Int} (h : 0 ≤ a) (b : Int) : divTrunc a b = a / b :=
  Int.tdiv_eq_ediv_of_nonneg h

/-! ## The slosh filter (R30) -/

theorem filterStep_16 (f h : Int) : filterStep 16 f h = h := by
  have hd : divTrunc ((h - f) * 16) 16 = h - f := Int.mul_tdiv_cancel _ (by omega)
  simp only [filterStep, hd]
  split <;> omega

/-- A share of at most the whole of a distance upward is no longer than the distance. -/
theorem divTrunc_share_mem {k d : Int} (h1 : 1 ≤ k) (h16 : k ≤ 16) (hd : 0 ≤ d) :
    0 ≤ divTrunc (d * k) 16 ∧ divTrunc (d * k) 16 ≤ d := by
  have hlo : 0 ≤ d * k := by positivity
  have hhi : d * k ≤ d * 16 := mul_le_mul_of_nonneg_left h16 hd
  rw [divTrunc_of_nonneg hlo]
  omega

/-- A step stays at H, or moves toward it by 1 mm at least and not past it. -/
theorem filterStep_cases {k : Int} (h1 : 1 ≤ k) (h16 : k ≤ 16) (f h : Int) :
    filterStep k f h = f ∧ h = f ∨
    f < filterStep k f h ∧ filterStep k f h ≤ h ∨ h ≤ filterStep k f h ∧ filterStep k f h < f := by
  have share : (0 ≤ h - f → 0 ≤ divTrunc ((h - f) * k) 16 ∧ divTrunc ((h - f) * k) 16 ≤ h - f) ∧
      (h - f ≤ 0 → h - f ≤ divTrunc ((h - f) * k) 16 ∧ divTrunc ((h - f) * k) 16 ≤ 0) := by
    refine ⟨divTrunc_share_mem h1 h16, fun hd => ?_⟩
    have := divTrunc_share_mem h1 h16 (Int.neg_nonneg.2 hd)
    rw [neg_mul, divTrunc_neg] at this
    omega
  unfold filterStep
  dsimp only
  split
  · split <;> omega
  · omega

/-- Settles O24. -/
theorem filterNeverPassesTheHeight : Obligations.FilterNeverPassesTheHeight := by
  refine fun f h => ⟨filterStep_16 f h, ?_⟩
  rintro k (rfl | rfl)
  · exact filterStep_cases (by omega) (by omega) f h
  · exact filterStep_cases (by omega) (by omega) f h

/-- Whatever the gain, the filtered height stays in a range that holds H and the height filtered before. -/
theorem filterHeight_mem {lo hi h : Int} {keep : TankKeep} (hkeep : ∀ f, keep.f = some f → lo ≤ f ∧ f ≤ hi)
    (hh : lo ≤ h ∧ h ≤ hi) (calm : Bool) :
    lo ≤ filterHeight keep calm h ∧ filterHeight keep calm h ≤ hi := by
  unfold filterHeight
  cases hf : keep.f with
  | none => exact hh
  | some f =>
    have hk := hkeep f hf
    dsimp only
    generalize hg : (if keep.reinit then (16 : Int) else if calm then 8 else 1) = k
    have gain : 1 ≤ k ∧ k ≤ 16 := by
      rw [← hg]
      split
      · omega
      · split <;> omega
    have := filterStep_cases gain.1 gain.2 f h
    omega

/-! ## The strapping table (R33) -/

/-- The order of two strapping points of one table: a higher point of no smaller volume (R20). -/
def StrapPoint.Before (p q : StrapPoint) : Prop := p.height < q.height ∧ p.volume ≤ q.volume

section
variable {p q : StrapPoint} {rest : List StrapPoint} {h : Int}

theorem strapFrom_between (hp : p.height ≤ h) (hq : h < q.height) :
    strapFrom (p :: q :: rest) h =
      p.volume + divNearest ((h - p.height) * (q.volume - p.volume)) (q.height - p.height) := by
  rw [strapFrom, if_neg hp.not_gt, if_pos hq]

theorem strapFrom_beyond (hb : p.Before q) (hq : q.height ≤ h) :
    strapFrom (p :: q :: rest) h = strapFrom (q :: rest) h := by
  rw [strapFrom, if_neg (hb.1.le.trans hq).not_gt, if_neg hq.not_gt]

/-- Between two points the conversion lies between their volumes. -/
theorem strapFrom_between_mem (hb : p.Before q) (hp : p.height ≤ h) (hq : h < q.height) :
    p.volume ≤ strapFrom (p :: q :: rest) h ∧ strapFrom (p :: q :: rest) h ≤ q.volume := by
  obtain ⟨hheight, hvolume⟩ := hb
  have hlo : (q.height - p.height) * 0 ≤ (h - p.height) * (q.volume - p.volume) := by
    rw [mul_zero]
    exact mul_nonneg (by omega) (by omega)
  have hhi : (h - p.height) * (q.volume - p.volume) ≤
      (q.height - p.height) * (q.volume - p.volume) :=
    mul_le_mul_of_nonneg_right (by omega) (by omega)
  have := divNearest_mem (by omega) hlo hhi
  rw [strapFrom_between hp hq]
  omega

end

/-- The last point of a table stands no lower than its first. -/
theorem first_le_last {p : StrapPoint} {l : List StrapPoint} (hl : (p :: l).Pairwise StrapPoint.Before) :
    p.height ≤ (l.getLastD p).height ∧ p.volume ≤ (l.getLastD p).volume := by
  obtain hm | hm := List.mem_cons.1 (List.getLastD_mem_cons (l := l) (a := p))
  · rw [hm]
    exact ⟨le_rfl, le_rfl⟩
  · obtain ⟨hheight, hvolume⟩ := (List.pairwise_cons.1 hl).1 _ hm
    exact ⟨hheight.le, hvolume⟩

/-- The conversion of a height in the table or above it lies between the first and the last volume. -/
theorem strapFrom_mem {p : StrapPoint} {l : List StrapPoint} (hl : (p :: l).Pairwise StrapPoint.Before)
    {h : Int} (hp : p.height ≤ h) :
    p.volume ≤ strapFrom (p :: l) h ∧ strapFrom (p :: l) h ≤ (l.getLastD p).volume := by
  induction l generalizing p with
  | nil => simp [strapFrom, hp]
  | cons q rest ih =>
    obtain ⟨hbefore, hrest⟩ := List.pairwise_cons.1 hl
    have hb := hbefore q (.head _)
    rw [List.getLastD_cons]
    obtain hq | hq := lt_or_ge h q.height
    · have below := strapFrom_between_mem (rest := rest) hb hp hq
      have last := (first_le_last hrest).2
      omega
    · rw [strapFrom_beyond hb hq]
      have := ih hrest hq
      have := hb.2
      omega

theorem strapFrom_mono {p : StrapPoint} {l : List StrapPoint} (hl : (p :: l).Pairwise StrapPoint.Before)
    {a b : Int} (ha : p.height ≤ a) (hab : a ≤ b) : strapFrom (p :: l) a ≤ strapFrom (p :: l) b := by
  induction l generalizing p with
  | nil => simp [strapFrom, ha, ha.trans hab]
  | cons q rest ih =>
    obtain ⟨hbefore, hrest⟩ := List.pairwise_cons.1 hl
    have hb := hbefore q (.head _)
    obtain haq | haq := lt_or_ge a q.height <;> obtain hbq | hbq := lt_or_ge b q.height
    · rw [strapFrom_between ha haq, strapFrom_between (ha.trans hab) hbq]
      have : (a - p.height) * (q.volume - p.volume) ≤ (b - p.height) * (q.volume - p.volume) :=
        mul_le_mul_of_nonneg_right (by omega) (by have := hb.2; omega)
      have := divNearest_mono (b := q.height - p.height) (by have := hb.1; omega) this
      omega
    · rw [strapFrom_beyond hb hbq]
      exact (strapFrom_between_mem hb ha haq).2.trans (strapFrom_mem hrest hbq).1
    · omega
    · rw [strapFrom_beyond hb haq, strapFrom_beyond hb hbq]
      exact ih hrest haq

/-- The conversion gives each point its volume. -/
theorem strapFrom_point {l : List StrapPoint} (hl : l.Pairwise StrapPoint.Before) :
    ∀ r ∈ l, strapFrom l r.height = r.volume := by
  induction l with
  | nil => simp
  | cons p rest ih =>
    obtain ⟨hbefore, hrest⟩ := List.pairwise_cons.1 hl
    cases rest with
    | nil => simp [strapFrom]
    | cons q rest =>
      have hb := hbefore q (.head _)
      intro r hr
      obtain rfl | hr := List.mem_cons.1 hr
      · have hz := divNearest_mul (b := q.height - r.height) (by have := hb.1; omega) 0
        rw [strapFrom_between le_rfl hb.1, sub_self, zero_mul]
        rw [mul_zero] at hz
        rw [hz, add_zero]
      · have hqr : q.height ≤ r.height := by
          obtain rfl | hr' := List.mem_cons.1 hr
          · exact le_rfl
          · exact ((List.pairwise_cons.1 hrest).1 r hr').1.le
        rw [strapFrom_beyond hb hqr]
        exact ih hrest r hr

/-- From the last point up the conversion gives the last volume. -/
theorem strapFrom_beyond_last {p : StrapPoint} {l : List StrapPoint}
    (hl : (p :: l).Pairwise StrapPoint.Before) {h : Int} (hh : (l.getLastD p).height ≤ h) :
    strapFrom (p :: l) h = (l.getLastD p).volume := by
  induction l generalizing p with
  | nil => exact if_pos hh
  | cons q rest ih =>
    obtain ⟨hbefore, hrest⟩ := List.pairwise_cons.1 hl
    rw [List.getLastD_cons] at hh ⊢
    rw [strapFrom_beyond (hbefore q (.head _)) ((first_le_last hrest).1.trans hh)]
    exact ih hrest hh

/-! ## The usable volume (R34, R35) -/

theorem TankEntry.lastPoint_cons {e : TankEntry} {p : StrapPoint} {rest : List StrapPoint}
    (h : e.strap = p :: rest) : e.lastPoint = rest.getLastD p := by
  rw [TankEntry.lastPoint, h, List.getLastD_cons]

theorem clampHeight_mem {e : TankEntry} (h : 0 ≤ e.lastPoint.height) (x : Int) :
    0 ≤ clampHeight e x ∧ clampHeight e x ≤ e.lastPoint.height + 500 :=
  clamp_mem (by omega) x

theorem residueHeight_nonneg (e : TankEntry) (tilt : Tilt) : 0 ≤ residueHeight e tilt := le_max_left _ _

theorem usableVolume_nonneg (e : TankEntry) (v residue : Int) : 0 ≤ usableVolume e v residue :=
  le_max_left _ _

theorem usableVolume_le {e : TankEntry} {v residue : Int} (hv : 0 ≤ v) (hr : 0 ≤ e.strapAt residue) :
    usableVolume e v residue ≤ v := by
  unfold usableVolume
  omega

/-- Settles O23: the table's bounds on a conversion, for the filtered height and for the residue height. -/
theorem usableVolumeStaysInTheTank : Obligations.UsableVolumeStaysInTheTank := by
  rintro e hheights hvolumes ⟨p, rest, he, hp, hv⟩
  have hstrap : e.strap.Pairwise StrapPoint.Before :=
    (List.pairwise_map.1 hheights).and (List.pairwise_map.1 hvolumes)
  have hcons := he ▸ hstrap
  have hlast := TankEntry.lastPoint_cons he
  have strapAt_eq (h : Int) : e.strapAt h = strapFrom (p :: rest) h := by rw [TankEntry.strapAt, he]
  have mem (h : Int) (h0 : 0 ≤ h) : 0 ≤ e.strapAt h ∧ e.strapAt h ≤ e.lastPoint.volume := by
    have := strapFrom_mem hcons (hp.le.trans h0)
    rw [strapAt_eq, hlast]
    omega
  refine ⟨fun a b ha hab => ?mono, strapFrom_point hstrap, fun h hh => ?top, ?cycle⟩
  case mono =>
    rw [strapAt_eq, strapAt_eq]
    exact strapFrom_mono hcons (hp.le.trans ha) hab
  case top =>
    rw [strapAt_eq, hlast]
    exact strapFrom_beyond_last hcons (hlast ▸ hh)
  case cycle =>
    intro tilt count keep c st hkeep g
    have hlast0 : 0 ≤ e.lastPoint.height := by
      have := (first_le_last hcons).1
      rw [hlast]
      omega
    have hf := filterHeight_mem hkeep (clampHeight_mem hlast0 c.h) (settled count e.settleS)
    have hvolume := mem _ hf.1
    have hresidue := residueHeight_nonneg e tilt
    exact ⟨_, _, _, _, rfl, rfl, rfl, rfl, hf.1, hf.2, usableVolume_nonneg _ _ _,
      usableVolume_le hvolume.1 (mem _ hresidue).1, hvolume.2, hresidue, decide_eq_true_iff,
      decide_eq_true_iff⟩

/-! ## The time to empty (R38) -/

/-- A quotient truncated and lowered to `top`: at `top` the dividend holds that many divisors, and below it the
quotient is exact but for the remainder. -/
theorem saturate_divTrunc {a b : Int} (ha : 0 ≤ a) (hb : 0 < b) (top : Nat) :
    let n := saturate top (divTrunc a b).toNat
    n = top ∧ top * b ≤ a ∨ n < top ∧ (n : Int) * b ≤ a ∧ a < (n + 1) * b := by
  intro n
  have hq : 0 ≤ a / b := Int.ediv_nonneg ha hb.le
  have hle : a / b * b ≤ a := Int.ediv_mul_le a hb.ne'
  have hlt : a < (a / b + 1) * b := Int.lt_ediv_add_one_mul_self a hb
  have hn : n = min top (a / b).toNat := by rw [← divTrunc_of_nonneg ha b]; rfl
  obtain htop | htop := le_or_gt top (a / b).toNat
  · have : (top : Int) * b ≤ a / b * b := mul_le_mul_of_nonneg_right (by omega) hb.le
    exact .inl ⟨by omega, this.trans hle⟩
  · have : (n : Int) = a / b := by omega
    rw [this]
    exact .inr ⟨by omega, hle, hlt⟩

/-- Settles O25. -/
theorem timeToEmptyFollowsTheRate : Obligations.TimeToEmptyFollowsTheRate := by
  refine ⟨fun u hu => ⟨rfl, fun r hr => if_pos hr, fun r hr => ?_⟩, fun e tilt count keep c st => ?_⟩
  · refine ⟨saturate 5999 (divTrunc (u * 60) (-r)).toNat, if_neg hr.not_ge, ?_, ?_⟩
    · rintro rfl
      rw [zero_mul, divTrunc, Int.zero_tdiv]
      rfl
    · exact_mod_cast saturate_divTrunc (by omega) (by omega) 5999
  · exact ⟨_, rfl, usableVolume_nonneg _ _ _, rfl⟩

end Sys2Proof.Machine

end

section
/-! PROOFS. The Profile Unit stands still while the publications of a command are taken, unless one is for it. -/

namespace Sys2Proof.Machine

/-! ## Which blocks a block's publications are for -/

/-- No publication of the list is for the Profile Unit, which hears of the inputs alone (R2, R185). -/
def NotToPfu (events : List (Block × Event)) : Prop := ∀ x ∈ events, x.1 ≠ .pfu

@[simp] theorem notToPfu_nil : NotToPfu [] := by simp [NotToPfu]

@[simp] theorem notToPfu_cons {x : Block × Event} {xs : List (Block × Event)} :
    NotToPfu (x :: xs) ↔ x.1 ≠ .pfu ∧ NotToPfu xs := by simp [NotToPfu]

@[simp] theorem notToPfu_append {xs ys : List (Block × Event)} :
    NotToPfu (xs ++ ys) ↔ NotToPfu xs ∧ NotToPfu ys := by simp [NotToPfu, or_imp, forall_and]

theorem NotToPfu.toBlocks {bs : List Block} (h : .pfu ∉ bs) (e : Event) : NotToPfu (toBlocks bs e) := by
  simp only [NotToPfu, Machine.toBlocks, List.forall_mem_map]
  rintro b hb rfl
  exact h hb

theorem NotToPfu.unlessEmpty {α : Type} {b : Block} (h : b ≠ .pfu) (e : List α → Event) (xs : List α) :
    NotToPfu (unlessEmpty b e xs) := by
  cases xs with
  | nil => exact notToPfu_nil
  | cons x xs => simpa [Machine.unlessEmpty] using h

theorem NotToPfu.ite {p : Prop} [Decidable p] {xs ys : List (Block × Event)} (hx : NotToPfu xs)
    (hy : NotToPfu ys) : NotToPfu (if p then xs else ys) := by
  split
  · exact hx
  · exact hy

theorem lbuOut_notToPfu (s : State) (a : Lbu) (r : List RecordBody) : NotToPfu (lbuOut s a r).events := by
  simp only [lbuOut, notToPfu_append]
  exact ⟨⟨.unlessEmpty (by decide) _ _, .unlessEmpty (by decide) _ _⟩,
    .ite (.toBlocks (by decide) _) notToPfu_nil⟩

theorem deuOut_notToPfu (u : Deu) (w : DeuWork) : NotToPfu (deuOut u w).events := by
  have passed : NotToPfu (w.passed.map fun d => (.lku, .started d)) := by simp [NotToPfu]
  simp only [deuOut, notToPfu_append]
  exact ⟨⟨⟨⟨.unlessEmpty (by decide) _ _, .unlessEmpty (by decide) _ _⟩,
    .unlessEmpty (by decide) _ _⟩, passed⟩, .ite (.toBlocks (by decide) _) notToPfu_nil⟩

theorem ppuOut_notToPfu (u : Ppu) (w : PpuWork) : NotToPfu (ppuOut u w).events := by
  simp only [ppuOut, notToPfu_append]
  exact ⟨⟨.unlessEmpty (by decide) _ _, .unlessEmpty (by decide) _ _⟩, .ite (by simp) notToPfu_nil⟩

theorem lkuOut_notToPfu (s : State) (a b : Lku) (w : LkuWork) : NotToPfu (lkuOut s a b w).events := by
  simp only [lkuOut, notToPfu_append]
  exact ⟨.unlessEmpty (by decide) _ _, .ite notToPfu_nil (.toBlocks (by decide) _)⟩

theorem tauOut_notToPfu (u : Tau) (w : TauWork) : NotToPfu (tauOut u w).events :=
  .ite notToPfu_nil (by simp)

theorem drcOut_notToPfu (w : DrcWork) : NotToPfu (drcOut w).events := by
  simp only [drcOut, notToPfu_append]
  refine ⟨?_, .ite (by simp) notToPfu_nil⟩
  cases w.reply <;> simp

/-! ## What a delivery to another block leaves of the Profile Unit -/

/-- A delivery leaves the Profile Unit as it is and hands it nothing. -/
def PfuPassedBy (s t : State) : Prop :=
  t.pfu = s.pfu ∧ ∃ events, t.agenda = s.agenda ++ events ∧ NotToPfu events

theorem PfuPassedBy.refl (s : State) : PfuPassedBy s s := ⟨rfl, [], by simp, notToPfu_nil⟩

theorem State.deliver_pfuPassedBy (s : State) {b : Block} (h : b ≠ .pfu) (e : Event) :
    PfuPassedBy s (s.deliver b e) := by
  cases b with
  | pfu => exact absurd rfl h
  | isu => cases e <;> exact ⟨rfl, [], by simp [State.deliver], notToPfu_nil⟩
  | tgu => cases e <;> exact ⟨rfl, [], by simp [State.deliver], notToPfu_nil⟩
  | lbu =>
    obtain h | ⟨b, r, h⟩ := s.lbuEvent_cases e <;> rw [State.deliver, h]
    · exact .refl s
    · exact ⟨rfl, _, State.lbuTakes_agenda s b r, lbuOut_notToPfu s b r⟩
  | deu =>
    obtain h | ⟨w, h⟩ := s.deuEvent_cases e <;> rw [State.deliver, h]
    · exact .refl s
    · exact ⟨rfl, _, State.deuCommit_agenda s w, deuOut_notToPfu s.deu w⟩
  | ppu =>
    obtain h | ⟨w, h⟩ := s.ppuEvent_cases e <;> rw [State.deliver, h]
    · exact .refl s
    · exact ⟨rfl, _, State.ppuCommit_agenda s w, ppuOut_notToPfu s.ppu w⟩
  | lku =>
    obtain h | ⟨w, h⟩ := s.lkuEvent_cases e <;> rw [State.deliver, h]
    · exact .refl s
    · exact ⟨rfl, _, State.lkuCommit_agenda s w, lkuOut_notToPfu s s.lku (lkuSettled s w.lku) w⟩
  | tau =>
    obtain h | ⟨w, h⟩ := s.tauEvent_cases e <;> rw [State.deliver, h]
    · exact .refl s
    · exact ⟨rfl, _, State.tauCommit_agenda s w, tauOut_notToPfu s.tau w.settled⟩
  | drc =>
    obtain h | ⟨w, h⟩ := s.drcEvent_cases e <;> rw [State.deliver, h]
    · exact .refl s
    · exact ⟨rfl, _, State.drcCommit_agenda s w, drcOut_notToPfu w⟩
  | lnk =>
    obtain h | ⟨body, h⟩ | ⟨r, -, h⟩ := s.lnkEvent_cases e <;> rw [State.deliver, h]
    · exact .refl s
    · exact ⟨rfl, [], by simp, notToPfu_nil⟩
    · exact ⟨rfl, [], by simp, notToPfu_nil⟩

/-- A chain of publications that begins with none for the Profile Unit never reaches it. -/
theorem settle_pfu (n : Nat) {s : State} (h : NotToPfu s.agenda) : (settle n s).pfu = s.pfu := by
  refine settle_keeps (·.pfu = s.pfu) (·.1 ≠ .pfu) (fun _ ht => ht) ?_ n s rfl h
  intro t b e left hleft hb ht
  obtain ⟨hpfu, events, hagenda, hevents⟩ := State.deliver_pfuPassedBy
    { t with agenda := left, schedule := t.schedule.drop 1 } hb e
  refine ⟨hpfu.trans ht, ?_⟩
  rw [hagenda]
  exact notToPfu_append.2 ⟨hleft, hevents⟩

/-- A command that changes no configuration and has nothing for the Profile Unit leaves it as its own effect did. -/
theorem State.finish_pfu {s : State} (h : NoConf s.agenda) (hpfu : NotToPfu s.agenda)
    (hr : s.lnk.restart = none) : s.finish.pfu = s.pfu := by
  have hr' : (settle Config.settleBound s).lnk.restart = none := by
    simpa [hr] using (Carried.settle Config.settleBound h).restart
  rw [State.finish, State.restartIfDue_none hr', settle_pfu _ hpfu]

end Sys2Proof.Machine

end

section
/-! PROOFS. The gauge cycle. -/

namespace Sys2Proof.Machine

/-! ## What a cycle makes of each tank (R39, R41) -/

theorem tguCycle_get (s : State) (tank : Tank) :
    ((tguCycle s).keeps.get tank, (tguCycle s).gauges.get tank) =
      gaugeTank s (tguCycle s).tilt (tguCycle s).stillCount tank := by
  cases tank <;> rfl

theorem tguCycle_tilt_unused {s : State} (h : s.pfu.inUse = none) :
    (tguCycle s).tilt = ⟨0, 0, .none, .none, .no⟩ := by
  simp [tguCycle, h]

theorem tguCycle_tilt_used {s : State} (h : s.pfu.inUse ≠ none) : (tguCycle s).tilt = readTilt s := by
  obtain ⟨p, hp⟩ := Option.ne_none_iff_exists'.1 h
  simp [tguCycle, hp]

theorem gaugeTank_disabled {s : State} {tank : Tank} (h : s.tankEntry tank = none) (tilt : Tilt)
    (count : Nat) : gaugeTank s tilt count tank = (.fresh, .notComputed) := by
  rw [gaugeTank, h]

section
variable {s : State} {tank : Tank} {e : TankEntry} {tilt : Tilt}

theorem gaugeTank_unusable (h : s.tankEntry tank = some e)
    (hc : combine e.spreadLimit (fittedProbes s tank e tilt) = none) (count : Nat) :
    gaugeTank s tilt count tank =
      gaugeUnusable (s.tgu.keeps.get tank) (probeStatuses (fittedProbes s tank e tilt)) := by
  simp only [gaugeTank, h, hc]

theorem gaugeTank_usable {c : Combined} (h : s.tankEntry tank = some e)
    (hc : combine e.spreadLimit (fittedProbes s tank e tilt) = some c) (count : Nat) :
    gaugeTank s tilt count tank =
      gaugeUsable e tilt count (s.tgu.keeps.get tank) c (probeStatuses (fittedProbes s tank e tilt)) := by
  simp only [gaugeTank, h, hc]

end

/-- A gauge cycle taken with no restart pending: its publication is no change of configuration and not for the Profile
Unit, so at the end of the command the gauges stand as the cycle left them, and the inputs and the profile as they
were. -/
theorem exec_gaugeCycle {s : State} {due : Micros} (h : s.tgu.gaugeTimer = .running due)
    (hr : s.lnk.restart = none) :
    ∃ t, exec .gaugeCycle s = .next t ∧ t.isu = s.isu ∧ t.pfu = s.pfu ∧ t.pending = s.pending ∧
      t.tgu = tguCycle (s.beginAt (max s.now due)) := by
  have own : Carried { s.beginAt (max s.now due) with tgu := tguCycle (s.beginAt (max s.now due)) }
      (s.beginAt (max s.now due)).tguCycled := (Carried.refl _).emit _
  have quiet : NoConf (s.beginAt (max s.now due)).tguCycled.agenda := .toBlocks rfl _
  have others : NotToPfu (s.beginAt (max s.now due)).tguCycled.agenda := .toBlocks (by decide) _
  have restart : (s.beginAt (max s.now due)).tguCycled.lnk.restart = none := by
    simpa [hr] using own.restart
  have carried := own.trans (Carried.finish quiet restart)
  refine ⟨_, ?_, carried.isu, State.finish_pfu quiet others restart, carried.pending, carried.tgu⟩
  show execGaugeCycle s = _
  rw [execGaugeCycle, atExpiry_running h]

/-- Settles O22, by the three forms of a tank's cycle. -/
theorem gaugeCycleCompletes : Obligations.GaugeCycleCompletes := by
  intro s due htimer hr
  obtain ⟨t, ht, hisu, hpfu, hpending, htgu⟩ := exec_gaugeCycle htimer hr
  have cycled (tank : Tank) : (t.tgu.keeps.get tank, t.tgu.gauges.get tank) =
      gaugeTank s t.tgu.tilt t.tgu.stillCount tank := by
    rw [htgu]
    exact tguCycle_get (s.beginAt (max s.now due)) tank
  refine ⟨t, ht, hisu, hpfu, hpending, ?timer, congrArg Tgu.stillCount htgu, ?unused, ?used, fun tank =>
    ⟨fun h => ?disabled, fun e h hc => ?unusable, fun e c h hc => ?usable⟩⟩
  case timer =>
    rw [htgu, tguCycle, State.beginAt_tgu, htimer]
    rfl
  case unused =>
    intro h
    rw [htgu]
    exact tguCycle_tilt_unused (s := s.beginAt (max s.now due)) h
  case used =>
    intro h
    rw [htgu]
    exact tguCycle_tilt_used (s := s.beginAt (max s.now due)) h
  case disabled =>
    obtain ⟨hkeep, hgauge⟩ := Prod.mk.inj ((cycled tank).trans (gaugeTank_disabled h _ _))
    exact ⟨hgauge, hkeep⟩
  case unusable =>
    obtain ⟨hkeep, hgauge⟩ := Prod.mk.inj ((cycled tank).trans (gaugeTank_unusable h hc _))
    rw [hkeep, hgauge]
    exact ⟨rfl, rfl, rfl, rfl, rfl, rfl, rfl, rfl, rfl, rfl, rfl, rfl⟩
  case usable => rw [cycled, gaugeTank_usable h hc]

end Sys2Proof.Machine

end

section
/-! PROOFS. The combination of a tank's probes. -/

namespace Sys2Proof.Machine

/-! ## Sorted estimates -/

theorem insertSorted_eq (x : Int) (ys : List Int) : insertSorted x ys = ys.orderedInsert (· ≤ ·) x := by
  induction ys with
  | nil => rfl
  | cons y ys ih => rw [insertSorted, List.orderedInsert, ih]

/-- The model's sort is the library's insertion sort. -/
theorem sorted_eq (xs : List Int) : sorted xs = xs.insertionSort (· ≤ ·) := by
  induction xs with
  | nil => rfl
  | cons x xs ih => rw [List.insertionSort_cons, ← ih, ← insertSorted_eq]; rfl

theorem sorted_perm (xs : List Int) : (sorted xs).Perm xs := sorted_eq xs ▸ List.perm_insertionSort _ xs

theorem sorted_pairwise (xs : List Int) : (sorted xs).Pairwise (· ≤ ·) :=
  sorted_eq xs ▸ List.pairwise_insertionSort _ xs

theorem sumOf_eq (xs : List Int) : sumOf xs = xs.sum := rfl

/-- The smallest and the largest estimate, as stage 4 takes them. -/
def lowest (xs : List Int) : Int := (sorted xs).getD 0 0

def highest (xs : List Int) : Int := (sorted xs).getD ((sorted xs).length - 1) 0

section
variable {xs : List Int}

theorem lowest_mem (h : xs ≠ []) : lowest xs ∈ xs := by
  have hpos : 0 < (sorted xs).length := (sorted_perm xs).length_eq ▸ List.length_pos_iff.2 h
  rw [lowest, List.getD_eq_getElem _ _ hpos]
  exact (sorted_perm xs).mem_iff.1 (List.getElem_mem hpos)

theorem highest_mem (h : xs ≠ []) : highest xs ∈ xs := by
  have hpos : 0 < (sorted xs).length := (sorted_perm xs).length_eq ▸ List.length_pos_iff.2 h
  rw [highest, List.getD_eq_getElem _ _ (Nat.sub_one_lt_of_lt hpos)]
  exact (sorted_perm xs).mem_iff.1 (List.getElem_mem _)

theorem between_lowest_highest {x : Int} (h : x ∈ xs) : lowest xs ≤ x ∧ x ≤ highest xs := by
  obtain ⟨i, hi, rfl⟩ := List.mem_iff_getElem.1 ((sorted_perm xs).mem_iff.2 h)
  have mono := (sorted_pairwise xs).sortedLE
  rw [lowest, highest, List.getD_eq_getElem _ _ (by omega), List.getD_eq_getElem _ _ (by omega)]
  exact ⟨mono.getElem_le_getElem_of_le (by omega), mono.getElem_le_getElem_of_le (by omega)⟩

/-- The spread is within a limit exactly when no two estimates are further apart. -/
theorem spread_le_iff (h : xs ≠ []) (limit : Int) :
    highest xs - lowest xs ≤ limit ↔ ∀ x ∈ xs, ∀ y ∈ xs, x - y ≤ limit := by
  refine ⟨fun hle x hx y hy => ?_, fun hle => hle _ (highest_mem h) _ (lowest_mem h)⟩
  have := between_lowest_highest hx
  have := between_lowest_highest hy
  omega

/-- The rounded mean lies between the smallest and the largest estimate. -/
theorem mean_mem (h : xs ≠ []) :
    lowest xs ≤ divNearest xs.sum xs.length ∧ divNearest xs.sum xs.length ≤ highest xs := by
  have hpos : 0 < xs.length := List.length_pos_iff.2 h
  have hlo := List.card_nsmul_le_sum xs (lowest xs) fun x hx => (between_lowest_highest hx).1
  have hhi := List.sum_le_card_nsmul xs (highest xs) fun x hx => (between_lowest_highest hx).2
  rw [nsmul_eq_mul] at hlo hhi
  exact divNearest_mem (by omega) hlo hhi

end

/-! ## The WET estimates combined (R26) -/

section
variable {limit : Int} {xs : List Int}

theorem combineWet_near (h : highest xs - lowest xs ≤ limit) :
    combineWet limit xs = (divNearest xs.sum xs.length, .good) := if_pos h

theorem combineWet_three (h : ¬ highest xs - lowest xs ≤ limit) {x y z : Int} (hs : sorted xs = [x, y, z]) :
    combineWet limit xs = (y, .degraded) := by
  refine (if_neg h).trans ?_
  rw [hs]

theorem combineWet_four (h : ¬ highest xs - lowest xs ≤ limit) {w x y z : Int}
    (hs : sorted xs = [w, x, y, z]) : combineWet limit xs = (divNearest (x + y) 2, .degraded) := by
  refine (if_neg h).trans ?_
  rw [hs]

theorem combineWet_other (h : ¬ highest xs - lowest xs ≤ limit) (h3 : xs.length ≠ 3) (h4 : xs.length ≠ 4) :
    combineWet limit xs = (lowest xs, .degraded) := by
  rw [← (sorted_perm xs).length_eq] at h3 h4
  refine (if_neg h).trans ?_
  split
  case h_1 hs => exact absurd (congrArg List.length hs) h3
  case h_2 hs => exact absurd (congrArg List.length hs) h4
  case h_3 => rfl

/-- Beyond the spread limit the sorted estimates are three, four, or give their smallest. -/
theorem combineWet_far_cases (h : ¬ highest xs - lowest xs ≤ limit) :
    (∃ x y z, sorted xs = [x, y, z] ∧ combineWet limit xs = (y, .degraded)) ∨
    (∃ w x y z, sorted xs = [w, x, y, z] ∧ combineWet limit xs = (divNearest (x + y) 2, .degraded)) ∨
    combineWet limit xs = (lowest xs, .degraded) := by
  by_cases h3 : xs.length = 3
  · obtain ⟨x, y, z, hs⟩ := List.length_eq_three.1 ((sorted_perm xs).length_eq.trans h3)
    exact .inl ⟨x, y, z, hs, combineWet_three h hs⟩
  · by_cases h4 : xs.length = 4
    · obtain ⟨w, x, y, z, hs⟩ := List.length_eq_four.1 ((sorted_perm xs).length_eq.trans h4)
      exact .inr (.inl ⟨w, x, y, z, hs, combineWet_four h hs⟩)
    · exact .inr (.inr (combineWet_other h h3 h4))

theorem combineWet_far_grade (h : ¬ highest xs - lowest xs ≤ limit) : (combineWet limit xs).2 = .degraded := by
  obtain ⟨_, _, _, -, hc⟩ | ⟨_, _, _, _, -, hc⟩ | hc := combineWet_far_cases h <;> rw [hc]

theorem combineWet_mem (h : xs ≠ []) (limit : Int) :
    lowest xs ≤ (combineWet limit xs).1 ∧ (combineWet limit xs).1 ≤ highest xs := by
  have mem {x : Int} (hx : x ∈ sorted xs) := between_lowest_highest ((sorted_perm xs).mem_iff.1 hx)
  by_cases hnear : highest xs - lowest xs ≤ limit
  · rw [combineWet_near hnear]
    exact mean_mem h
  · obtain ⟨x, y, z, hs, hc⟩ | ⟨w, x, y, z, hs, hc⟩ | hc := combineWet_far_cases hnear <;> rw [hc]
    · exact mem (by simp [hs])
    · have hx := mem (x := x) (by simp [hs])
      have hy := mem (x := y) (by simp [hs])
      exact divNearest_mem (by omega) (by omega) (by omega)
    · exact ⟨le_rfl, (between_lowest_highest (lowest_mem h)).2⟩

end

/-- The smaller of two. -/
theorem combineWet_far_two {limit a b : Int} (h : ¬ highest [a, b] - lowest [a, b] ≤ limit) :
    (combineWet limit [a, b]).1 = min a b := by
  have mem {v : Int} (hv : v ∈ [a, b]) := between_lowest_highest hv
  have ha := mem (v := a) (by simp)
  have hb := mem (v := b) (by simp)
  have hlow : lowest [a, b] = a ∨ lowest [a, b] = b := by simpa using lowest_mem (xs := [a, b]) (by simp)
  rw [combineWet_other h (by simp) (by simp)]
  omega

/-- The middle of three, from the smallest, the largest and the sum. -/
theorem combineWet_far_three {limit a b d : Int} (h : ¬ highest [a, b, d] - lowest [a, b, d] ≤ limit) :
    (combineWet limit [a, b, d]).1 = max (min a b) (min (max a b) d) := by
  obtain ⟨x, y, z, hs⟩ := List.length_eq_three.1 (sorted_perm [a, b, d]).length_eq
  have hsum : x + (y + z) = a + (b + d) := by simpa [hs] using (sorted_perm [a, b, d]).sum_eq
  have hlow : x = a ∨ x = b ∨ x = d := by simpa [lowest, hs] using lowest_mem (xs := [a, b, d]) (by simp)
  have hhigh : z = a ∨ z = b ∨ z = d := by simpa [highest, hs] using highest_mem (xs := [a, b, d]) (by simp)
  have mem {v : Int} (hv : v ∈ [a, b, d]) : x ≤ v ∧ v ≤ z := by
    simpa [lowest, highest, hs] using between_lowest_highest hv
  have ha := mem (v := a) (by simp)
  have hb := mem (v := b) (by simp)
  have hd := mem (v := d) (by simp)
  rw [combineWet_three h hs]
  omega

/-- The middle two of four, from the smallest, the largest and the sum. -/
theorem combineWet_far_four {limit a b d e : Int}
    (h : ¬ highest [a, b, d, e] - lowest [a, b, d, e] ≤ limit) :
    (combineWet limit [a, b, d, e]).1 =
      divNearest (a + b + d + e - min (min a b) (min d e) - max (max a b) (max d e)) 2 := by
  obtain ⟨w, x, y, z, hs⟩ := List.length_eq_four.1 (sorted_perm [a, b, d, e]).length_eq
  have hsum : w + (x + (y + z)) = a + (b + (d + e)) := by
    simpa [hs] using (sorted_perm [a, b, d, e]).sum_eq
  have hlow : w = a ∨ w = b ∨ w = d ∨ w = e := by
    simpa [lowest, hs] using lowest_mem (xs := [a, b, d, e]) (by simp)
  have hhigh : z = a ∨ z = b ∨ z = d ∨ z = e := by
    simpa [highest, hs] using highest_mem (xs := [a, b, d, e]) (by simp)
  have mem {v : Int} (hv : v ∈ [a, b, d, e]) : w ≤ v ∧ v ≤ z := by
    simpa [lowest, highest, hs] using between_lowest_highest hv
  have ha := mem (v := a) (by simp)
  have hb := mem (v := b) (by simp)
  have hd := mem (v := d) (by simp)
  have he := mem (v := e) (by simp)
  have hmiddle : x + y = a + b + d + e - min (min a b) (min d e) - max (max a b) (max d e) := by omega
  rw [combineWet_four h hs, hmiddle]

/-! ## The largest of a list (R27) -/

theorem foldl_max_mem (x : Int) (xs : List Int) : xs.foldl max x ∈ x :: xs :=
  (List.max?_eq_some_iff.1 List.max?_cons').1

theorem le_foldl_max {x y : Int} {xs : List Int} (h : y ∈ x :: xs) : y ≤ xs.foldl max x :=
  (List.max?_eq_some_iff.1 List.max?_cons').2 y h

/-! ## The forms of stage 4 (R26, R27) -/

/-- The estimates of the probes with a status. -/
def estimatesOf (st : ProbeStatus) (ps : List Probe) : List Int :=
  (ps.filter fun p => p.status = st).map (·.estimate)

/-- Some probe is EXCLUDED or SATURATED (R26, R27). -/
def Spoilt (ps : List Probe) : Prop := ∃ p ∈ ps, p.status = .excluded ∨ p.status = .saturated

/-- A grade as the probes of the tank leave it. -/
def cappedGrade (ps : List Probe) (q : Quality) : Quality :=
  if ps.any fun p => p.status = .excluded || p.status = .saturated then Quality.worse q .degraded else q

section
variable {ps : List Probe} {st : ProbeStatus} {limit : Int}

theorem mem_estimatesOf {x : Int} :
    x ∈ estimatesOf st ps ↔ ∃ p ∈ ps, p.status = st ∧ p.estimate = x := by
  simp [estimatesOf, and_assoc]

theorem estimatesOf_ne_nil : estimatesOf st ps ≠ [] ↔ ∃ p ∈ ps, p.status = st := by
  simp [estimatesOf]

theorem estimatesOf_eq_nil : estimatesOf st ps = [] ↔ ∀ p ∈ ps, p.status ≠ st := by
  simp [estimatesOf]

theorem cappedGrade_sound (h : ¬ Spoilt ps) (q : Quality) : cappedGrade ps q = q := by
  refine if_neg ?_
  simpa [Spoilt] using h

theorem cappedGrade_spoilt (h : Spoilt ps) : cappedGrade ps .good = .degraded := by
  refine if_pos ?_
  simpa [Spoilt] using h

theorem cappedGrade_degraded (ps : List Probe) : cappedGrade ps .degraded = .degraded := ite_self _

theorem combine_wet (h : estimatesOf .wet ps ≠ []) : combine limit ps = some
    ⟨(combineWet limit (estimatesOf .wet ps)).1, cappedGrade ps (combineWet limit (estimatesOf .wet ps)).2,
      false⟩ := by
  have : (!(estimatesOf .wet ps).isEmpty) = true := by simpa using h
  exact if_pos this

theorem combine_dry (hw : estimatesOf .wet ps = []) (h : ∃ p ∈ ps, p.status = .dry) :
    combine limit ps = some ⟨0, cappedGrade ps
      (if ∃ p ∈ ps, p.status = .dry ∧ p.z = 0 then .good else .degraded), false⟩ := by
  have hwet : ¬ (!(estimatesOf .wet ps).isEmpty) = true := by simp [hw]
  have hdry : (!(ps.filter fun p => p.status = .dry).isEmpty) = true := by simpa using h
  refine (if_neg hwet).trans ((if_pos hdry).trans ?_)
  simp [cappedGrade]

theorem combine_saturated (hw : estimatesOf .wet ps = []) (hd : ∀ p ∈ ps, p.status ≠ .dry) {x : Int}
    {xs : List Int} (h : estimatesOf .saturated ps = x :: xs) :
    combine limit ps = some ⟨xs.foldl max x, .degraded, true⟩ := by
  have hwet : ¬ (!(estimatesOf .wet ps).isEmpty) = true := by simp [hw]
  have hdry : ¬ (!(ps.filter fun p => p.status = .dry).isEmpty) = true := by simpa using hd
  refine (if_neg hwet).trans ((if_neg hdry).trans ?_)
  rw [estimatesOf] at h
  rw [h]

theorem combine_unusable (hw : estimatesOf .wet ps = []) (hd : ∀ p ∈ ps, p.status ≠ .dry)
    (h : estimatesOf .saturated ps = []) : combine limit ps = none := by
  have hwet : ¬ (!(estimatesOf .wet ps).isEmpty) = true := by simp [hw]
  have hdry : ¬ (!(ps.filter fun p => p.status = .dry).isEmpty) = true := by simpa using hd
  refine (if_neg hwet).trans ((if_neg hdry).trans ?_)
  rw [estimatesOf] at h
  rw [h]

end

section
variable {ps : List Probe} {limit : Int}

/-- Within the spread limit the grade of the WET probes is GOOD unless another probe spoils it. -/
theorem grade_wet_near (h : highest (estimatesOf .wet ps) - lowest (estimatesOf .wet ps) ≤ limit) :
    cappedGrade ps (combineWet limit (estimatesOf .wet ps)).2 = cappedGrade ps .good := by
  rw [combineWet_near h]

/-- Beyond it, DEGRADED whatever the other probes. -/
theorem grade_wet_far (h : ¬ highest (estimatesOf .wet ps) - lowest (estimatesOf .wet ps) ≤ limit) :
    cappedGrade ps (combineWet limit (estimatesOf .wet ps)).2 = .degraded := by
  rw [combineWet_far_grade h, cappedGrade_degraded]

end

/-- Settles O21, form by form. -/
theorem combinationStaysAmongTheWetProbes : Obligations.CombinationStaysAmongTheWetProbes := by
  intro limit ps _ wet spoilt near
  refine ⟨fun hwet => ?wet, fun hwet hdry => ?dry, fun hneither hfull => ?saturated, fun hnone => ?none⟩
  case wet =>
    have hne : wet ≠ [] := estimatesOf_ne_nil.2 hwet
    have hnear : highest wet - lowest wet ≤ limit ↔ near := spread_le_iff hne limit
    have hmem := combineWet_mem hne limit
    obtain ⟨p, hp, hpwet, hlow⟩ := mem_estimatesOf.1 (lowest_mem hne)
    obtain ⟨q, hq, hqwet, hhigh⟩ := mem_estimatesOf.1 (highest_mem hne)
    refine ⟨_, combine_wet hne, rfl, ⟨p, hp, hpwet, hlow.trans_le hmem.1⟩,
      ⟨q, hq, hqwet, hmem.2.trans_eq hhigh.symm⟩, ?good, ?degraded, fun hn => ?mean, fun hn => ?beyond⟩
    case good =>
      rintro ⟨hn, hs⟩
      exact (grade_wet_near (hnear.2 hn)).trans (cappedGrade_sound hs _)
    case degraded =>
      intro h
      by_cases hn : near
      · exact (grade_wet_near (hnear.2 hn)).trans (cappedGrade_spoilt (h.resolve_left (not_not.2 hn)))
      · exact grade_wet_far (mt hnear.1 hn)
    case mean => exact congrArg Prod.fst (combineWet_near (hnear.2 hn))
    case beyond =>
      have far := mt hnear.1 hn
      refine ⟨fun a b h => ?_, fun a b d h => ?_, fun a b d e h => ?_⟩
      · rw [h] at far
        exact (congrArg (fun xs => (combineWet limit xs).1) h).trans (combineWet_far_two far)
      · rw [h] at far
        exact (congrArg (fun xs => (combineWet limit xs).1) h).trans (combineWet_far_three far)
      · rw [h] at far
        exact (congrArg (fun xs => (combineWet limit xs).1) h).trans (combineWet_far_four far)
  case dry =>
    refine ⟨_, combine_dry (estimatesOf_eq_nil.2 hwet) hdry, rfl, rfl, ?_, fun h => ?_⟩
    · rintro ⟨hfloor, hs⟩
      exact (cappedGrade_sound hs _).trans (if_pos hfloor)
    · by_cases hfloor : ∃ p ∈ ps, p.status = .dry ∧ p.z = 0
      · obtain ⟨p, hp, hpdry, hz⟩ := hfloor
        have hs : Spoilt ps := h.resolve_left fun hall => hall p hp hpdry hz
        exact (congrArg _ (if_pos ⟨p, hp, hpdry, hz⟩)).trans (cappedGrade_spoilt hs)
      · exact (congrArg _ (if_neg hfloor)).trans (cappedGrade_degraded ps)
  case saturated =>
    obtain ⟨x, xs, hxs⟩ := List.exists_cons_of_ne_nil (estimatesOf_ne_nil.2 hfull)
    obtain ⟨p, hp, hpfull, hmax⟩ := mem_estimatesOf.1 (hxs ▸ foldl_max_mem x xs)
    refine ⟨_, combine_saturated (estimatesOf_eq_nil.2 fun p hp => (hneither p hp).1)
      (fun p hp => (hneither p hp).2) hxs, rfl, rfl, ⟨p, hp, hpfull, hmax.symm⟩, fun q hq hqfull => ?_⟩
    exact le_foldl_max (hxs ▸ mem_estimatesOf.2 ⟨q, hq, hqfull, rfl⟩)
  case none =>
    exact combine_unusable (estimatesOf_eq_nil.2 fun p hp => (hnone p hp).1) (fun p hp => (hnone p hp).2.1)
      (estimatesOf_eq_nil.2 fun p hp => (hnone p hp).2.2)

end Sys2Proof.Machine

end

section
/-! PROOFS. The profile area: section CRCs, and what the field checks make sure of in a tank entry. -/

namespace Sys2Proof.Machine

/-! ## Slices of an image -/

@[simp] theorem Memory.length_slice (m : Memory) (a n : Nat) : (m.slice a n).length = n := by
  simp [Memory.slice]

@[simp] theorem length_crcBytes (bs : List Byte) : (crcBytes bs).length = 2 := rfl

/-- Bytes written elsewhere leave a slice as it was. -/
theorem Memory.slice_writeList_disjoint {m : Memory} (hm : m.wf = true) {a n b : Nat} {vs : List Byte}
    (h : a + n ≤ b ∨ b + vs.length ≤ a) : Memory.slice (m.writeList b vs) a n = m.slice a n := by
  refine List.map_congr_left fun i hi => ?_
  have hi := List.mem_range.1 hi
  rw [Memory.read_writeList vs b (a + i) hm, if_neg (by omega)]

/-- Bytes written read back. -/
theorem Memory.slice_writeList_self {m : Memory} (hm : m.wf = true) (a : Nat) (vs : List Byte) :
    Memory.slice (m.writeList a vs) a vs.length = vs := by
  refine List.ext_getElem (by simp) fun i h1 h2 => ?_
  have hread := Memory.read_writeList vs a (a + i) hm
  rw [if_pos (by omega), Nat.add_sub_cancel_left, List.getD_eq_getElem _ _ h2] at hread
  simpa [Memory.slice] using hread

/-! ## Section CRCs (R178, R183, R193) -/

/-- Of two sections, with their CRCs, one ends before the other begins (R193). -/
theorem sections_disjoint {i j : Nat} {p q : SectionPlace} (hp : sectionPlace i = some p)
    (hq : sectionPlace j = some q) (h : i ≠ j) :
    p.address + p.size + 2 ≤ q.address ∨ q.address + q.size + 2 ≤ p.address := by
  have rising : sectionPlaces.Pairwise fun p q => p.address + p.size + 2 ≤ q.address := by decide
  obtain ⟨hi, rfl⟩ := List.getElem?_eq_some_iff.1 hp
  obtain ⟨hj, rfl⟩ := List.getElem?_eq_some_iff.1 hq
  obtain h | h := Nat.lt_or_gt_of_ne h
  · exact .inl (List.pairwise_iff_getElem.1 rising i j hi hj h)
  · exact .inr (List.pairwise_iff_getElem.1 rising j i hj hi h)

theorem writeSectionCrc_of_place {n : Nat} {p : SectionPlace} (h : sectionPlace n = some p) (m : Memory) :
    writeSectionCrc m n = m.writeList (p.address + p.size) (crcBytes (m.slice p.address p.size)) := by
  rw [writeSectionCrc, h]

theorem writeSectionCrc_of_none {n : Nat} (h : sectionPlace n = none) (m : Memory) :
    writeSectionCrc m n = m := by
  rw [writeSectionCrc, h]

section
variable {m : Memory} (hm : m.wf = true)
include hm

/-- Writing the CRC of a section leaves the data of each section as they were. -/
theorem slice_writeSectionCrc (k : Nat) {n : Nat} {p : SectionPlace} (hp : sectionPlace n = some p) :
    Memory.slice (writeSectionCrc m k) p.address p.size = m.slice p.address p.size := by
  cases hq : sectionPlace k with
  | none => rw [writeSectionCrc_of_none hq]
  | some q =>
    rw [writeSectionCrc_of_place hq]
    refine Memory.slice_writeList_disjoint hm ?_
    rw [length_crcBytes]
    by_cases hkn : n = k
    · subst hkn
      obtain rfl := Option.some.inj (hp.symm.trans hq)
      exact .inl le_rfl
    · have := sections_disjoint hp hq hkn
      omega

theorem sectionData_writeSectionCrc (k n : Nat) : sectionData (writeSectionCrc m k) n = sectionData m n := by
  cases hp : sectionPlace n with
  | none => simp only [sectionData, hp]
  | some p => simp only [sectionData, hp, slice_writeSectionCrc hm k hp]

/-- The section whose CRC is written has the right one. -/
theorem sectionCrcOk_writeSectionCrc_self {n : Nat} (hn : n < 7) :
    sectionCrcOk (writeSectionCrc m n) n = true := by
  obtain ⟨p, hp⟩ : ∃ p, sectionPlace n = some p := ⟨_, List.getElem?_eq_getElem (l := sectionPlaces) hn⟩
  have hcrc := Memory.slice_writeList_self hm (p.address + p.size) (crcBytes (m.slice p.address p.size))
  simp only [sectionCrcOk, hp, decide_eq_true_iff, slice_writeSectionCrc hm n hp]
  rw [writeSectionCrc_of_place hp]
  exact hcrc

/-- Writing the CRC of a section spoils no other. -/
theorem sectionCrcOk_writeSectionCrc_other {k n : Nat} (h : n ≠ k) :
    sectionCrcOk (writeSectionCrc m k) n = sectionCrcOk m n := by
  cases hp : sectionPlace n with
  | none => simp only [sectionCrcOk, hp]
  | some p =>
    have hcrc : Memory.slice (writeSectionCrc m k) (p.address + p.size) 2 =
        m.slice (p.address + p.size) 2 := by
      cases hq : sectionPlace k with
      | none => rw [writeSectionCrc_of_none hq]
      | some q =>
        have := sections_disjoint hp hq h
        rw [writeSectionCrc_of_place hq]
        exact Memory.slice_writeList_disjoint hm (by rw [length_crcBytes]; omega)
    simp only [sectionCrcOk, hp, slice_writeSectionCrc hm k hp, hcrc]

/-- Writing the CRCs of several sections leaves all data as they were, and gives those sections the right CRC. -/
theorem foldl_writeSectionCrc (ns : List Nat) (hns : ∀ n ∈ ns, n < 7) :
    (∀ n, sectionData (ns.foldl writeSectionCrc m) n = sectionData m n) ∧
    ∀ n, sectionCrcOk m n = true ∨ n ∈ ns → sectionCrcOk (ns.foldl writeSectionCrc m) n = true := by
  induction ns generalizing m with
  | nil => simp
  | cons k ns ih =>
    obtain ⟨hdata, hcrc⟩ := ih (Memory.writeSectionCrc_wf k hm) fun n hn => hns n (.tail _ hn)
    refine ⟨fun n => (hdata n).trans (sectionData_writeSectionCrc hm k n), fun n hn => hcrc n ?_⟩
    by_cases hk : n = k
    · subst hk
      exact .inl (sectionCrcOk_writeSectionCrc_self hm (hns n (.head _)))
    · rw [sectionCrcOk_writeSectionCrc_other hm hk]
      exact hn.imp_right fun h => (List.mem_cons.1 h).resolve_left hk

theorem sectionData_writeCrcs (n : Nat) : sectionData (writeCrcs m) n = sectionData m n :=
  (foldl_writeSectionCrc hm (List.range 7) fun _ => List.mem_range.1).1 n

theorem crcFinding_writeCrcs : crcFinding (writeCrcs m) = none := by
  have hcrc := (foldl_writeSectionCrc hm (List.range 7) fun _ => List.mem_range.1).2
  have hnone : (List.range 7).find? (fun n => !sectionCrcOk (writeCrcs m) n) = none := by
    refine List.find?_eq_none.2 fun n hn => ?_
    rw [writeCrcs, hcrc n (.inr hn)]
    decide
  rw [crcFinding, hnone]
  rfl

end

/-! ## The field checks of a tank (R20, R21, R45) -/

/-- A second pass that finds nothing has passed every check of every section. -/
theorem checks_pass {m : Memory} (h : fieldFinding m = none) {n : Nat} (hn : n < 7) {c : Check}
    (hc : c ∈ sectionChecks m n) : c.passes = true := by
  have hsection := List.findSome?_eq_none_iff.1 h n (List.mem_range.2 hn)
  rw [sectionFinding, Option.map_eq_none_iff, List.find?_eq_none] at hsection
  simpa using hsection c hc

theorem profileOf_tank (m : Memory) (t : Tank) :
    (profileOf m).tanks.get t = tankEntryOf (sectionData m 2) (188 * tankCode t) := by
  cases t <;> rfl

theorem tankEntryOf_enabled (bs : List Byte) (o : Nat) :
    (tankEntryOf bs o).enabled = decide (rd8 bs o = 1) := rfl

/-- An enabled tank's checks are among those of the TANKS section. -/
theorem enabledTankChecks_mem {m : Memory} {t : Tank}
    (h : ((profileOf m).tanks.get t).enabled = true) {c : Check}
    (hc : c ∈ enabledTankChecks (profileOf m).entries (sectionData m 2) (tankCode t)) :
    c ∈ sectionChecks m 2 := by
  have hon : rd8 (sectionData m 2) (188 * tankCode t) = 1 := by
    rw [profileOf_tank, tankEntryOf_enabled] at h
    exact of_decide_eq_true h
  have hcode : tankCode t < 4 := by cases t <;> decide
  refine List.mem_append_left _ (List.mem_flatten.2 ⟨_, List.mem_map.2 ⟨_, List.mem_range.2 hcode, rfl⟩, ?_⟩)
  refine List.mem_append_right _ ?_
  rwa [if_pos hon]

@[simp] theorem within_eq_true {lo hi x : Int} : within lo hi x = true ↔ lo ≤ x ∧ x ≤ hi := by
  simp [within]

@[simp] theorem check8_passes {bs : List Byte} {off lo hi : Nat} :
    (check8 bs off lo hi).passes = true ↔ lo ≤ rd8 bs off ∧ rd8 bs off ≤ hi := by
  simp [check8]

@[simp] theorem check16_passes {bs : List Byte} {off lo hi : Nat} :
    (check16 bs off lo hi).passes = true ↔ lo ≤ rd16 bs off ∧ rd16 bs off ≤ hi := by
  simp [check16]

/-- The checks of a repeated field, row by row. -/
theorem forall_mem_rows {P : Check → Prop} {k : Nat} {row : Nat → List Check} :
    (∀ c ∈ ((List.range k).map row).flatten, P c) ↔ ∀ i < k, ∀ c ∈ row i, P c := by
  simp only [List.mem_flatten, List.mem_map, List.mem_range]
  exact ⟨fun h i hi c hc => h c ⟨_, ⟨i, hi, rfl⟩, hc⟩, fun h c ⟨_, ⟨i, hi, hrow⟩, hc⟩ => h i hi c (hrow ▸ hc)⟩

/-- Strapping point `j` and probe `i` of tank `n` in the TANKS section (R193). -/
def tankPoint (bs : List Byte) (n j : Nat) : StrapPoint := strapPointOf bs (188 * n + 43 + 4 * j)

def tankProbe (bs : List Byte) (n i : Nat) : ProbeEntry := probeEntryOf bs (188 * n + 2 + 8 * i)

/-- How many strapping points and probes the entry of tank `n` says it has. -/
def pointCount (bs : List Byte) (n : Nat) : Nat := rd8 bs (188 * n + 42)

def probeCount (bs : List Byte) (n : Nat) : Nat := rd8 bs (188 * n + 1)

theorem tankEntryOf_strap (bs : List Byte) (n : Nat) :
    (tankEntryOf bs (188 * n)).strap = (List.range (min 33 (pointCount bs n))).map (tankPoint bs n) := rfl

theorem tankEntryOf_probes (bs : List Byte) (n : Nat) :
    (tankEntryOf bs (188 * n)).probes = (List.range (min 4 (probeCount bs n))).map (tankProbe bs n) := rfl

/-- What the checks of an enabled tank make sure of in its fields, other than those of its outlet (R20, R45). -/
structure SoundTank (bs : List Byte) (n : Nat) : Prop where
  probes : 1 ≤ probeCount bs n ∧ probeCount bs n ≤ 4
  probe : ∀ i < probeCount bs n, (tankProbe bs n i).z ≤ 4000 ∧
    200 ≤ (tankProbe bs n i).rangeMm ∧ (tankProbe bs n i).rangeMm ≤ 4000
  points : 2 ≤ pointCount bs n ∧ pointCount bs n ≤ 33
  first : (tankPoint bs n 0).height = 0
  rises : ∀ j, j + 1 < pointCount bs n → (tankPoint bs n j).Before (tankPoint bs n (j + 1))
  last : (tankPoint bs n (pointCount bs n - 1)).height ≤ 8000 ∧
    (tankPoint bs n (pointCount bs n - 1)).volume ≤ 40000
  bands : let e := tankEntryOf bs (188 * n)
    e.b1 < e.b2 ∧ e.b2 < e.b3 ∧ e.b3 < e.b4 ∧ e.b4 ≤ (tankPoint bs n (pointCount bs n - 1)).volume
  hysteresis : let e := tankEntryOf bs (188 * n)
    e.hysteresis < e.b2 - e.b1 ∧ e.hysteresis < e.b3 - e.b2 ∧ e.hysteresis < e.b4 - e.b3

theorem soundTank_of_checks {entries : List Entry} {bs : List Byte} {n : Nat}
    (h : ∀ c ∈ enabledTankChecks entries bs n, c.passes = true) : SoundTank bs n := by
  simp only [enabledTankChecks, List.forall_mem_append, forall_mem_rows, List.forall_mem_cons, check8_passes,
    check16_passes, Bool.and_eq_true, Bool.or_eq_true, decide_eq_true_eq, lt_min_iff] at h
  obtain ⟨⟨⟨⟨⟨hcount, -⟩, hprobe⟩, -, -, -, -, hpoints, -⟩, hpoint⟩,
    -, -, h12, -, h23, -, ⟨h34, htop⟩, -, ⟨hy12, hy23, hy34⟩, -⟩ := h
  have hpos : 0 < pointCount bs n := Nat.zero_lt_of_lt hpoints.1
  have hend : ¬ pointCount bs n - 1 + 1 < pointCount bs n := by omega
  exact {
    probes := hcount
    probe := fun i hi => by
      obtain ⟨-, -, hz, hrange, -⟩ := hprobe i hi
      exact ⟨Int.ofNat_le.2 hz.2, Int.ofNat_le.2 hrange.1, Int.ofNat_le.2 hrange.2⟩
    points := hpoints
    first := by simpa [tankPoint] using (hpoint 0 (by omega)).2.1
    rises := fun j hj => by
      obtain ⟨-, hheight, -, hvolume, -⟩ := hpoint (j + 1) hj
      exact ⟨by simpa [tankPoint] using hheight, hvolume.resolve_left j.succ_ne_zero⟩
    last := by
      obtain ⟨hheight, -, hvolume, -⟩ := hpoint (pointCount bs n - 1) (Nat.sub_one_lt_of_lt hpos)
      exact ⟨hheight.resolve_left hend, hvolume.resolve_left hend⟩
    bands := ⟨h12, h23, h34, htop⟩
    hysteresis := ⟨hy12, hy23, hy34⟩ }

/-! ## The table and the probes of a sound tank -/

theorem StrapPoint.Before.trans {p q r : StrapPoint} (h : p.Before q) (k : q.Before r) : p.Before r :=
  ⟨h.1.trans k.1, h.2.trans k.2⟩

/-- Points each before the next are in order. -/
theorem pairwise_before_of_rises {f : Nat → StrapPoint} {k : Nat}
    (h : ∀ j < k, (f j).Before (f (j + 1))) :
    ((List.range (k + 1)).map f).Pairwise StrapPoint.Before := by
  have trans : IsTrans StrapPoint StrapPoint.Before := ⟨fun _ _ _ => StrapPoint.Before.trans⟩
  rw [← List.isChain_iff_pairwise, List.isChain_map, List.isChain_range_succ]
  exact h

section
variable {bs : List Byte} {n : Nat} (h : SoundTank bs n)
include h

theorem SoundTank.pointCount_succ : ∃ k, pointCount bs n = k + 1 :=
  Nat.exists_eq_succ_of_ne_zero (by have := h.points; omega)

theorem SoundTank.strap_eq :
    (tankEntryOf bs (188 * n)).strap = (List.range (pointCount bs n)).map (tankPoint bs n) := by
  rw [tankEntryOf_strap, min_eq_right h.points.2]

theorem SoundTank.strap_cons : ∃ rest, (tankEntryOf bs (188 * n)).strap = tankPoint bs n 0 :: rest := by
  obtain ⟨k, hk⟩ := h.pointCount_succ
  rw [h.strap_eq, hk, List.range_succ_eq_map]
  exact ⟨_, rfl⟩

theorem SoundTank.lastPoint_eq :
    (tankEntryOf bs (188 * n)).lastPoint = tankPoint bs n (pointCount bs n - 1) := by
  obtain ⟨k, hk⟩ := h.pointCount_succ
  rw [TankEntry.lastPoint, h.strap_eq, hk, List.range_succ, List.map_append]
  simp

theorem SoundTank.strap_pairwise : (tankEntryOf bs (188 * n)).strap.Pairwise StrapPoint.Before := by
  obtain ⟨k, hk⟩ := h.pointCount_succ
  rw [h.strap_eq, hk]
  exact pairwise_before_of_rises fun j hj => h.rises j (by omega)

theorem SoundTank.probes_eq :
    (tankEntryOf bs (188 * n)).probes = (List.range (probeCount bs n)).map (tankProbe bs n) := by
  rw [tankEntryOf_probes, min_eq_right h.probes.2]

end

theorem soundTank_of_enabled {m : Memory} (h : fieldFinding m = none) {t : Tank}
    (ht : ((profileOf m).tanks.get t).enabled = true) : SoundTank (sectionData m 2) (tankCode t) :=
  soundTank_of_checks fun _ hc => checks_pass h (by decide) (enabledTankChecks_mem ht hc)

/-- Settles O60: the CRCs section by section, and the tank entries from the checks their fields have passed. -/
theorem validImagesGiveSoundTanks : Obligations.ValidImagesGiveSoundTanks := by
  refine ⟨fun m hm => ⟨crcFinding_writeCrcs hm, Memory.writeCrcs_wf hm, fun n _ => sectionData_writeCrcs hm n⟩,
    ?_⟩
  intro m hm t e he
  have sound := soundTank_of_enabled hm he
  have hentry : e = tankEntryOf (sectionData m 2) (188 * tankCode t) := profileOf_tank m t
  clear_value e
  subst hentry
  obtain ⟨rest, hcons⟩ := sound.strap_cons
  obtain ⟨hheights, hvolumes⟩ := List.pairwise_and_iff.1 sound.strap_pairwise
  obtain ⟨h12, h23, h34, htop⟩ := sound.bands
  obtain ⟨hy12, hy23, hy34⟩ := sound.hysteresis
  have hlength := congrArg List.length sound.strap_eq
  have hprobes := congrArg List.length sound.probes_eq
  rw [List.length_map, List.length_range] at hlength hprobes
  rw [hlength, hprobes, sound.lastPoint_eq]
  refine ⟨List.pairwise_map.2 hheights, List.pairwise_map.2 hvolumes,
    ⟨_, rest, hcons, sound.first, Int.natCast_nonneg _⟩, sound.points.1, sound.points.2, sound.last.1,
    sound.last.2, Int.natCast_nonneg _, h12, h23, h34, htop, Int.natCast_nonneg _, hy12, hy23, hy34,
    sound.probes.1, sound.probes.2, ?_⟩
  rw [sound.probes_eq, List.forall_mem_map]
  intro i hi
  obtain ⟨hz, hlo, hhi⟩ := sound.probe i (List.mem_range.1 hi)
  exact ⟨hlo, hhi, Int.natCast_nonneg _, hz⟩

end Sys2Proof.Machine

end

section
/-! PROOFS. Level bands. -/

namespace Sys2Proof.Machine

/-! ## How a band moves (R46 to R49) -/

/-- The falling condition of R48: the usable volume is below the lower boundary of the band. -/
def Falls (e : TankEntry) (b : Band) (u : Int) : Prop := ∃ low, lowerBound e b = some low ∧ u < low

/-- The rising condition of R48, the direction rule apart: the usable volume has reached the upper boundary of the band
plus the hysteresis. -/
def Climbs (e : TankEntry) (b : Band) (u : Int) : Prop :=
  ∃ high, upperBound e b = some high ∧ high + e.hysteresis ≤ u

theorem falls_iff (e : TankEntry) (b : Band) (u : Int) :
    Falls e b u ↔ b = .reserve ∧ u < e.b1 ∨ b = .low ∧ u < e.b2 ∨ b = .normal ∧ u < e.b3 ∨
      b = .full ∧ u < e.b4 := by
  cases b <;> simp [Falls, lowerBound]

theorem climbs_iff (e : TankEntry) (b : Band) (u : Int) :
    Climbs e b u ↔ b = .empty ∧ e.b1 + e.hysteresis ≤ u ∨ b = .reserve ∧ e.b2 + e.hysteresis ≤ u ∨
      b = .low ∧ e.b3 + e.hysteresis ≤ u ∨ b = .normal ∧ e.b4 + e.hysteresis ≤ u := by
  cases b <;> simp [Climbs, upperBound]

theorem mayRise_iff (rate : Option Int) (still : Bool) :
    mayRise rate still = true ↔ match rate with
      | some r => 0 ≤ r
      | none => still = true := by
  cases rate <;> simp [mayRise]

/-- The candidate of a publication, falling first (R48). -/
theorem bandCondition_cases (e : TankEntry) (still : Bool) (b : Band) (u : Int) (rate : Option Int) :
    (Falls e b u → bandCondition e still b u rate = .fall) ∧
    (¬ Falls e b u → mayRise rate still = true → Climbs e b u → bandCondition e still b u rate = .rise) ∧
    (¬ Falls e b u → ¬ (mayRise rate still = true ∧ Climbs e b u) →
      bandCondition e still b u rate = .none) := by
  unfold Falls Climbs bandCondition
  cases lowerBound e b <;> cases upperBound e b <;> grind

theorem persistLimit_eq (q : Quality) : persistLimit q = if q = .moving then 20 else 2 := by
  cases q <;> rfl

section
variable {e : TankEntry} {still : Bool} {g : GaugeRec} {b : BandRec} {u : Int}

theorem bandStep_unknown (h : g.quality = .unknown) (entry : Option TankEntry) :
    bandStep entry still g b = .lost := by
  unfold bandStep
  split
  · rw [if_pos h]
  · rfl

theorem bandStep_initial (hu : g.u = some u) (hq : g.quality ≠ .unknown) (hb : b.band = .unknown) :
    bandStep (some e) still g b = ⟨bandAt e u, .none, 0, .initial⟩ := by
  simp [bandStep, hu, hq, hb]

theorem bandStep_known (hu : g.u = some u) (hq : g.quality ≠ .unknown) (hb : b.band ≠ .unknown) :
    bandStep (some e) still g b = moveBand (bandCondition e still b.band u g.rate) g.quality b := by
  simp [bandStep, hu, hq, hb]

end

/-- Settles O26, by the three kinds of publication and, for a known band, the three candidates. -/
theorem bandsMoveOneStepOnEvidence : Obligations.BandsMoveOneStepOnEvidence := by
  intro e still g b u hu b'
  refine ⟨fun hq => bandStep_unknown hq _, fun hq hb => bandStep_initial hu hq hb, fun hq hb => ?_⟩
  obtain ⟨hfall, hrise, hnone⟩ := bandCondition_cases e still b.band u g.rate
  rw [falls_iff] at hfall hrise hnone
  rw [climbs_iff] at hrise hnone
  have hstep : b' = moveBand (bandCondition e still b.band u g.rate) g.quality b := bandStep_known hu hq hb
  refine ⟨fun hf => ?fall, fun hf hr => ?rise, fun hf hr => ?none⟩
  case fall => rw [hstep, hfall hf, moveBand, persistLimit_eq]
  case rise => rw [hstep, hrise hf ((mayRise_iff _ _).2 hr.1) hr.2, moveBand, persistLimit_eq]
  case none => rw [hstep, hnone hf fun h => hr (h.imp_left (mayRise_iff _ _).1), moveBand]

end Sys2Proof.Machine

end

section
/-! PROOFS. What a command does: the shape that all of them share. -/

namespace Sys2Proof.Machine

open Sys2Proof.Safety

/-- A command's own effect on the state in which it begins, before the publications it hands over are taken. -/
def ownEffect (c : Instr) (s : State) : State :=
  match c with
  | .powerOnReset rateHigh => s.hardReset rateHigh
  | .pinReset rateHigh => s.hardReset rateHigh
  | .scan codes samples => s.isuScanned codes.toList samples
  | .pulse _ pin => { s with isu := isuPulse s pin }
  | .holdTimerExpiry pin => { s with isu := isuHoldExpired s pin }
  | .stillTimerExpiry => { s with isu := isuStillExpired s }
  | .recoveryTimerExpiry => s.pfuTakes (pfuRecoveryExpired s)
  | .gaugeCycle => s.tguCycled
  | .recloseTimerExpiry => s.lbuValve (valveRecloseExpired s s.lbu.valve)
  | .lowPressureTimerExpiry => s.lbuValve (valveLowPressureExpired s s.lbu.valve)
  | .noRiseTimerExpiry => s.lbuValve (valveNoRiseExpired s s.lbu.valve)
  | .permissiveTimerExpiry drive => s.deuTakes (bodyPermissiveExpired drive)
  | .confirmTimerExpiry drive => s.deuTakes (bodyConfirmExpired s drive)
  | .retryOffExpiry drive => s.deuTakes (bodyRetryOffExpired s drive)
  | .restoreTimerExpiry => s.deuTakes endRestore
  | .idleTimerExpiry drive => s.deuTakes (bodyIdleExpired s drive)
  | .positionTimerExpiry drive => s.deuTakes (bodyMonitorFault s drive .positionLost)
  | .overspeedTimerExpiry => s.deuTakes bodyOverspeedExpired
  | .slipTimerExpiry drive => s.deuTakes (bodyMonitorFault s drive .slip)
  | .stallTimerExpiry drive => s.deuTakes (bodyMonitorFault s drive .slip)
  | .persistTimerExpiry pump watch => s.ppuTakes (thresholdExpired s pump watch)
  | .dryTimerExpiry pump => s.ppuTakes (dryExpired s pump)
  | .dryRunClearExpiry pump => s.ppuTakes (dryClearExpired pump)
  | .overrideTimerExpiry slot => s.lkuTakes (lkuExpired s slot.val)
  | .transferTimerExpiry => s.tauTakes tauTransferExpired
  | .reclaimTimerExpiry => s.tauTakes (tauReclaimExpired s)
  | .syncTimerExpiry => s.drcTakes (drcSyncExpired s)
  | .halfPageWriteEnd _ outcome => s.slotWriteEnded outcome
  | .slotReadEnd _ outcome => s.slotReadEnded outcome
  | .pageReadEnd _ outcome => s.pageReadEnded outcome
  | .pageWriteEnd _ outcome => s.pageWriteEnded outcome
  | .hlrxByte _ b framingError => s.receive b framingError
  | .gapTimerExpiry => s.gapExpired
  | .replySent _ => s.replySent
  | c => match requestFrame c with
    | some (_, f) => s.offerFrame f
    | none => s

/-- A request is its frame, offered to the receive buffer (R167, R190). -/
theorem exec_request {c : Instr} {dt : Micros} {f : Frame} (h : requestFrame c = some (dt, f)) (s : State) :
    exec c s = .next ((s.beginAt (s.now + dt)).offerFrame f).finish := by
  cases c <;> cases h <;> rfl

/-- The state in which a request's owner takes it: the command has begun and the request is in service (R167, R169). -/
def State.inService (s : State) (time : Micros) (kind tag : Byte) : State :=
  { s.beginAt time with lnk := { s.lnk with service := some ⟨kind, tag, none⟩ } }

/-- A request that finds the link free, of a known kind and an allowed length, goes to its owner at once (R167 to
R169). -/
theorem exec_own {c : Instr} {dt : Micros} {f : Frame} (h : requestFrame c = some (dt, f)) {s : State}
    (hfree : LinkFree s) (hkind : requestKinds.contains f.kind = true)
    (hlength : lengthAllowed f.kind.toNat f.body.length = true) :
    exec c s = .next ((s.inService (s.now + dt) f.kind f.tag).own f.kind.toNat f.body).finish := by
  obtain ⟨hservice, hrestart⟩ := hfree
  simp [exec_request h, State.offerFrame, State.serve, hservice, hrestart, -List.contains_eq_mem, hkind, hlength,
    State.inService]

/-- The expiry of a timer that is not running is none; any other acts no earlier than the command before it. -/
theorem atExpiry_acts (timer : Timer) (f : State → State) (s : State) :
    atExpiry timer f s = .next s ∨
      ∃ time, s.now ≤ time ∧ atExpiry timer f s = .next (f (s.beginAt time)).finish := by
  obtain h | ⟨due, -, h⟩ := atExpiry_cases timer f s
  · exact .inl h
  · exact .inr ⟨_, le_max_left _ _, h⟩

/-- What a command can do: nothing, where its timer does not run; a hard reset; or its own effect at a time no earlier
than the command before it, after which its neighbours take what it handed over. -/
theorem exec_cases (c : Instr) (s : State) :
    exec c s = .next s ∨ (isReset c = true ∧ exec c s = .next (ownEffect c s)) ∨
      (isReset c = false ∧ ∃ time, s.now ≤ time ∧ exec c s = .next (ownEffect c (s.beginAt time)).finish) := by
  cases c with
  | powerOnReset | pinReset => exact .inr (.inl ⟨rfl, rfl⟩)
  | scan | holdTimerExpiry | stillTimerExpiry | recoveryTimerExpiry | gaugeCycle | recloseTimerExpiry
  | lowPressureTimerExpiry | noRiseTimerExpiry | permissiveTimerExpiry | confirmTimerExpiry | retryOffExpiry
  | restoreTimerExpiry | idleTimerExpiry | positionTimerExpiry | overspeedTimerExpiry | slipTimerExpiry
  | stallTimerExpiry | persistTimerExpiry | dryTimerExpiry | dryRunClearExpiry | overrideTimerExpiry
  | transferTimerExpiry | reclaimTimerExpiry | syncTimerExpiry | gapTimerExpiry =>
    simp only [exec]
    exact (atExpiry_acts _ _ s).imp_right fun h => .inr ⟨rfl, h⟩
  | _ => exact .inr (.inr ⟨rfl, _, Nat.le_add_right _ _, rfl⟩)

end Sys2Proof.Machine

end

section
/-! PROOFS. The outputs: every event leaves them as their owners' records command them. -/

namespace Sys2Proof.Machine

open Sys2Proof.Safety

/-! ## Each unit's outputs

An output that already follows its record is not moved by following it again, so an event that ends by following the
record leaves the outputs commanded. -/

theorem tauOutputs_idem (t : Tau) : tauOutputs (tauOutputs t) = tauOutputs t := rfl

theorem ppuOutputs_idem (u : Ppu) : ppuOutputs (ppuOutputs u) = ppuOutputs u := rfl

/-- DO2 is read back in FAULTED alone, where the other two ways to assert it are shut (R69, R76, R87). -/
theorem deuOutputs_idem (u : Deu) : deuOutputs (deuOutputs u) = deuOutputs u := by
  cases h : u.drives.aux.state <;> simp [deuOutputs, DriveState.turning, h]

/-- The solenoid of MAIN's shift and that of its return are never driven together (R69). -/
theorem deuOutputs_exclusive (u : Deu) : ¬ ((deuOutputs u).do0 = true ∧ (deuOutputs u).do1 = true) := by
  cases h : u.drives.main.state <;> simp [deuOutputs, h]

theorem tauOutputs_do4_iff (t : Tau) : (tauOutputs t).do4 = true ↔ (t.state ≠ .cab ∨ t.cuts ≠ []) := by
  simp [tauOutputs]

theorem tauOutputs_do5_iff (t : Tau) :
    (tauOutputs t).do5 = true ↔ t.state = .panel ∧ t.cuts = [] ∧ t.resumeHold = false := by
  simp [tauOutputs, and_assoc]

theorem ppuOutputs_do8_iff (u : Ppu) : (ppuOutputs u).do8 = true ↔
    (u.watches.main.overheat.state = .tripped ∨ u.watches.main.overheat.state = .recovering) := by
  cases h : u.watches.main.overheat.state <;> simp [ppuOutputs, WatchState.acting, h]

theorem ppuOutputs_do9_iff (u : Ppu) : (ppuOutputs u).do9 = true ↔ ∃ a ∈ u.alarms, a.silenced = false := by
  simp [ppuOutputs, hornSounds]

/-! ## The refill valve and DO6 (R53) -/

/-- DO6 is energised exactly while the valve is OPEN (R53). -/
def Valve.Follows (v : Valve) : Prop := v.do6 = decide (v.state = .opened)

theorem openValve_follows (s : State) (v : Valve) : (openValve s v).Follows := rfl

theorem closeValve_follows (s : State) (cause : FillCause) (v : Valve) : (closeValve s cause v).Follows := rfl

theorem leaveFaulted_follows (cause : FillCause) (v : Valve) : (leaveFaulted cause v).Follows := rfl

section
variable {v : Valve} (h : v.Follows) (s : State)
include h

theorem openIfClosed_follows (band : Band) : (openIfClosed s band v).Follows := by
  unfold openIfClosed
  split
  · exact openValve_follows s v
  · exact h

theorem valveGauges_follows (bands : PerTank BandRec) : (valveGauges s bands v).Follows := by
  unfold valveGauges
  dsimp only
  split
  case h_2 => exact openIfClosed_follows h s _
  case h_1 =>
    split
    · exact closeValve_follows s _ v
    split
    · exact closeValve_follows s _ v
    split
    · split <;> exact h
    · exact h

theorem valveInputs_follows : (valveInputs s v).Follows := by
  unfold valveInputs
  split
  case h_1 =>
    split
    · exact closeValve_follows s _ v
    · split <;> exact h
  case h_2 =>
    split
    · exact h
    · exact leaveFaulted_follows _ v
  case h_3 => exact openIfClosed_follows h s _

theorem valveLockouts_follows : (valveLockouts s v).Follows := by
  unfold valveLockouts
  split
  · exact closeValve_follows s _ v
  · exact openIfClosed_follows h s _

theorem valveRecloseExpired_follows : (valveRecloseExpired s v).Follows := by
  have h' : ({ v with reclose := .stopped } : Valve).Follows := h
  unfold valveRecloseExpired
  dsimp only
  split
  case h_1 =>
    split
    · exact openValve_follows s _
    · simp_all [Valve.Follows]
  case h_2 => exact openIfClosed_follows h' s _

theorem valveLowPressureExpired_follows : (valveLowPressureExpired s v).Follows := by
  unfold valveLowPressureExpired
  dsimp only
  split
  · exact closeValve_follows s _ _
  · exact h

theorem valveNoRiseExpired_follows : (valveNoRiseExpired s v).Follows := by
  unfold valveNoRiseExpired
  dsimp only
  split
  · rfl
  · exact h

theorem valveConf_follows (after : Conf) : (valveConf s after v).Follows := by
  unfold valveConf
  split
  case h_1 =>
    split
    · exact closeValve_follows s _ v
    · exact h
  case h_2 => exact h
  case h_3 =>
    split
    · exact h
    · rfl

end

/-! ## An event of each block -/

section
variable {s : State} (h : OutputsFollow s)
include h

theorem State.lbuValve_outputs {v : Valve} (hv : v.Follows) : OutputsFollow (s.lbuValve v) :=
  have ⟨htau, hdeu, hppu, _⟩ := h
  ⟨htau, hdeu, hppu, hv⟩

theorem State.deuTakes_outputs (body : DeuWork → DeuWork) : OutputsFollow (s.deuTakes body) :=
  have ⟨htau, _, hppu, hvalve⟩ := h
  ⟨htau, deuOutputs_idem _, hppu, hvalve⟩

theorem State.ppuCommit_outputs (w : PpuWork) : OutputsFollow (s.ppuCommit w) :=
  have ⟨htau, hdeu, _, hvalve⟩ := h
  ⟨htau, hdeu, ppuOutputs_idem _, hvalve⟩

theorem State.tauCommit_outputs (w : TauWork) : OutputsFollow (s.tauCommit w) :=
  have ⟨_, hdeu, hppu, hvalve⟩ := h
  ⟨tauOutputs_idem _, hdeu, hppu, hvalve⟩

theorem State.lbuEvent_outputs (e : Event) : OutputsFollow (s.lbuEvent e) := by
  have ⟨htau, hdeu, hppu, hvalve⟩ := h
  cases e with
  | inputs => exact State.lbuValve_outputs h (valveInputs_follows hvalve s)
  | gauges => exact ⟨htau, hdeu, hppu, valveGauges_follows hvalve s _⟩
  | conf _ after => exact ⟨htau, hdeu, hppu, valveConf_follows hvalve s after⟩
  | lockouts changed =>
    rw [State.lbuEvent]
    split
    · exact State.lbuValve_outputs h (valveLockouts_follows hvalve s)
    · exact h
  | _ => exact h

theorem State.deuEvent_outputs (e : Event) : OutputsFollow (s.deuEvent e) := by
  cases e with
  | inputs | supply _ _ | lockouts _ | conf _ _ => exact State.deuTakes_outputs h _
  | _ => exact h

theorem State.ppuEvent_outputs (e : Event) : OutputsFollow (s.ppuEvent e) := by
  obtain he | ⟨w, he⟩ := s.ppuEvent_cases e <;> rw [he]
  · exact h
  · exact State.ppuCommit_outputs h w

theorem State.tauEvent_outputs (e : Event) : OutputsFollow (s.tauEvent e) := by
  obtain he | ⟨w, he⟩ := s.tauEvent_cases e <;> rw [he]
  · exact h
  · exact State.tauCommit_outputs h w

/-- A publication taken by any block. The blocks that command none of these outputs leave the records alone. -/
theorem State.deliver_outputs (b : Block) (e : Event) : OutputsFollow (s.deliver b e) := by
  cases b with
  | lbu => exact State.lbuEvent_outputs h e
  | deu => exact State.deuEvent_outputs h e
  | ppu => exact State.ppuEvent_outputs h e
  | tau => exact State.tauEvent_outputs h e
  | isu | tgu => cases e <;> exact h
  | lku => obtain he | ⟨w, he⟩ := s.lkuEvent_cases e <;> rw [State.deliver, he] <;> exact h
  | drc => obtain he | ⟨w, he⟩ := s.drcEvent_cases e <;> rw [State.deliver, he] <;> exact h
  | pfu => obtain he | he := s.pfuEvent_cases e <;> rw [State.deliver, he] <;> exact h
  | lnk =>
    obtain he | ⟨body, he⟩ | ⟨r, -, he⟩ := s.lnkEvent_cases e <;> rw [State.deliver, he] <;> exact h

end

/-! ## The end of a command, and each command -/

theorem State.afterReset_outputs (high : Bool) (faults : LinkFaults) (schedule : List Block)
    (pending : List Instr) : OutputsFollow (.afterReset high faults schedule pending) :=
  ⟨rfl, rfl, rfl, rfl⟩

theorem State.finish_outputs {s : State} (h : OutputsFollow s) : OutputsFollow s.finish := by
  have settled : OutputsFollow (settle Config.settleBound s) :=
    settle_keeps_all OutputsFollow (fun _ ht => ht)
      (fun t b e left ht => State.deliver_outputs
        (s := { t with agenda := left, schedule := t.schedule.drop 1 }) ht b e) _ s h
  rw [State.finish]
  obtain hr | ⟨-, hr⟩ := State.restartIfDue_cases (settle Config.settleBound s) <;> rw [hr]
  · exact settled
  · exact State.afterReset_outputs _ _ _ _

section
variable {s : State} (h : OutputsFollow s)
include h

theorem State.slotWriteEnded_outputs (outcome : WriteEnd) : OutputsFollow (s.slotWriteEnded outcome) := by
  unfold State.slotWriteEnded
  split <;> exact h

theorem State.slotReadEnded_outputs (outcome : SlotEnd) : OutputsFollow (s.slotReadEnded outcome) := by
  unfold State.slotReadEnded
  split <;> exact h

theorem State.pageReadEnded_outputs (outcome : PageEnd) : OutputsFollow (s.pageReadEnded outcome) := by
  unfold State.pageReadEnded
  split <;> exact h

theorem State.pageWriteEnded_outputs (outcome : WriteEnd) : OutputsFollow (s.pageWriteEnded outcome) := by
  unfold State.pageWriteEnded
  split <;> exact h

theorem State.onDrive_outputs (b : Byte) {f : Drive → State} (hf : ∀ d, OutputsFollow (f d)) :
    OutputsFollow (s.onDrive b f) := by
  unfold State.onDrive
  split
  · exact hf _
  · exact h

theorem State.clearFill_outputs : OutputsFollow s.clearFill := by
  unfold State.clearFill
  split
  · exact State.lbuValve_outputs h (leaveFaulted_follows _ _)
  · exact h

theorem State.getTank_outputs (tank : Nat) : OutputsFollow (s.getTank tank) := by
  unfold State.getTank
  split <;> exact h

theorem State.setMask_outputs (mask : BitVec 16) : OutputsFollow (s.setMask mask) := by
  unfold State.setMask
  split <;> exact h

theorem State.requestRestart_outputs : OutputsFollow s.requestRestart := by
  unfold State.requestRestart
  split
  · exact h
  · split <;> exact h

/-- A request passed to its owner. ENGAGE and RELEASE DRIVE, RECLAIM AUTHORITY, SILENCE ALARM and CLEAR FILL FAULT reach
a unit that commands outputs; GET TANK, SET NOTICE MASK and SOFT RESTART branch in the Link Unit. -/
theorem State.own_outputs (kind : Nat) (b : List Byte) : OutputsFollow (s.own kind b) := by
  unfold State.own
  split
  case h_3 => exact State.getTank_outputs h _
  case h_5 => exact State.setMask_outputs h _
  case h_6 | h_7 => exact State.onDrive_outputs h _ fun d => State.deuTakes_outputs h _
  case h_8 => exact State.tauCommit_outputs h _
  case h_9 => exact State.ppuCommit_outputs h _
  case h_10 => exact State.clearFill_outputs h
  case h_23 => exact State.requestRestart_outputs h
  all_goals exact h

theorem State.serve_outputs (f : Frame) : OutputsFollow (s.serve f) := by
  unfold State.serve
  dsimp only
  split
  · exact h
  split
  · exact h
  exact State.own_outputs (s := { s with lnk := { s.lnk with service := some ⟨f.kind, f.tag, none⟩ } }) h _ _

theorem State.offerFrame_outputs (f : Frame) : OutputsFollow (s.offerFrame f) := by
  unfold State.offerFrame
  split
  · exact State.serve_outputs h f
  · split <;> exact h

theorem State.replySent_outputs : OutputsFollow s.replySent := by
  unfold State.replySent
  split
  · split
    · exact h
    · exact State.serve_outputs (s := { s with lnk := { s.lnk with service := none, waiting := none } }) h _
    · exact h
  · exact h

theorem State.receive_outputs (b : Byte) (framingError : Bool) : OutputsFollow (s.receive b framingError) := by
  unfold State.receive
  dsimp only
  split
  · split <;> exact h
  split
  · exact h
  unfold State.assemble
  dsimp only
  split
  · exact h
  split
  · exact h
  split
  · exact State.offerFrame_outputs (s := { s with lnk := s.lnk.discard s.lnk.faults }) h _
  · exact h

theorem ownEffect_outputs (c : Instr) : OutputsFollow (ownEffect c s) := by
  have ⟨_, _, _, hvalve⟩ := h
  cases c with
  | powerOnReset | pinReset => exact State.afterReset_outputs _ _ _ _
  | recloseTimerExpiry => exact State.lbuValve_outputs h (valveRecloseExpired_follows hvalve s)
  | lowPressureTimerExpiry => exact State.lbuValve_outputs h (valveLowPressureExpired_follows hvalve s)
  | noRiseTimerExpiry => exact State.lbuValve_outputs h (valveNoRiseExpired_follows hvalve s)
  | permissiveTimerExpiry | confirmTimerExpiry | retryOffExpiry | restoreTimerExpiry | idleTimerExpiry
  | positionTimerExpiry | overspeedTimerExpiry | slipTimerExpiry | stallTimerExpiry =>
    exact State.deuTakes_outputs h _
  | persistTimerExpiry | dryTimerExpiry | dryRunClearExpiry => exact State.ppuCommit_outputs h _
  | transferTimerExpiry | reclaimTimerExpiry => exact State.tauCommit_outputs h _
  | halfPageWriteEnd _ outcome => exact State.slotWriteEnded_outputs h outcome
  | slotReadEnd _ outcome => exact State.slotReadEnded_outputs h outcome
  | pageReadEnd _ outcome => exact State.pageReadEnded_outputs h outcome
  | pageWriteEnd _ outcome => exact State.pageWriteEnded_outputs h outcome
  | hlrxByte => exact State.receive_outputs h _ _
  | replySent => exact State.replySent_outputs h
  | scan | pulse | holdTimerExpiry | stillTimerExpiry | recoveryTimerExpiry | gaugeCycle | overrideTimerExpiry
  | syncTimerExpiry | gapTimerExpiry => exact h
  | _ => exact State.offerFrame_outputs h _

/-- Every command keeps the outputs commanded. -/
theorem exec_outputs {c : Instr} {t : State} (ht : exec c s = .next t) : OutputsFollow t := by
  obtain he | ⟨-, he⟩ | ⟨-, time, -, he⟩ := exec_cases c s <;> cases he.symm.trans ht
  · exact h
  · exact ownEffect_outputs h c
  · exact State.finish_outputs (ownEffect_outputs (s := s.beginAt time) h c)

end

/-- Settles O7: the outputs follow their records at the end of every event, and the interlocks are read off the
records. -/
theorem stepKeepsOutputsCommanded : Obligations.StepKeepsOutputsCommanded := by
  intro s t h ht
  have follows : OutputsFollow t := by
    unfold step at ht
    split at ht
    case h_1 =>
      cases ht
      exact h
    case h_2 rest _ => exact exec_outputs (s := { s with pending := rest }) h ht
  have ⟨htau, hdeu, hppu, hvalve⟩ := follows
  have do4 := tauOutputs_do4_iff t.tau
  have do5 := tauOutputs_do5_iff t.tau
  have do8 := ppuOutputs_do8_iff t.ppu
  have do9 := ppuOutputs_do9_iff t.ppu
  have exclusive := deuOutputs_exclusive t.deu
  rw [htau] at do4 do5
  rw [hppu] at do8 do9
  rw [hdeu] at exclusive
  refine ⟨follows, exclusive, fun h5 => ?_, do4, do8, do9, by simp [hvalve]⟩
  obtain ⟨hpanel, hcuts, hhold⟩ := do5.1 h5
  exact ⟨do4.2 (.inl (by simp [hpanel])), hpanel, hcuts, hhold⟩

end Sys2Proof.Machine

end

section
/-! PROOFS. The Level Band Unit while the publications of a command are taken: the Lockout Unit alone reaches it. -/

namespace Sys2Proof.Machine

/-! ## What blocks hand to the Level Band Unit -/

theorem mem_toBlocks {x : Block × Event} {bs : List Block} {e : Event} :
    x ∈ toBlocks bs e ↔ x.1 ∈ bs ∧ x.2 = e := by
  obtain ⟨b, f⟩ := x
  simp [toBlocks, eq_comm]

theorem mem_unlessEmpty {α : Type} {x : Block × Event} {b : Block} {e : List α → Event} {xs : List α} :
    x ∈ unlessEmpty b e xs ↔ xs ≠ [] ∧ x = (b, e xs) := by
  cases xs <;> simp [unlessEmpty]

/-- A publication for the Level Band Unit, if it is one, is the Lockout Unit's (R120). -/
def FromLkuIfToLbu (x : Block × Event) : Prop := x.1 = .lbu → ∃ changed, x.2 = .lockouts changed

theorem lbuOut_notToLbu (s : State) (a : Lbu) (r : List RecordBody) :
    ∀ x ∈ (lbuOut s a r).events, x.1 ≠ .lbu := by
  simp only [lbuOut, List.mem_append, mem_unlessEmpty, List.mem_ite_nil_right, mem_toBlocks]
  grind

theorem deuOut_notToLbu (u : Deu) (w : DeuWork) : ∀ x ∈ (deuOut u w).events, x.1 ≠ .lbu := by
  simp only [deuOut, List.mem_append, mem_unlessEmpty, List.mem_ite_nil_right, mem_toBlocks, List.mem_map]
  grind

theorem ppuOut_notToLbu (u : Ppu) (w : PpuWork) : ∀ x ∈ (ppuOut u w).events, x.1 ≠ .lbu := by
  simp only [ppuOut, List.mem_append, mem_unlessEmpty, List.mem_ite_nil_right, List.mem_singleton]
  grind

theorem tauOut_notToLbu (u : Tau) (w : TauWork) : ∀ x ∈ (tauOut u w).events, x.1 ≠ .lbu := by
  simp only [tauOut, List.mem_ite_nil_left, List.mem_singleton]
  grind

theorem drcOut_notToLbu (w : DrcWork) : ∀ x ∈ (drcOut w).events, x.1 ≠ .lbu := by
  cases h : w.reply <;>
    simp only [drcOut, h, List.mem_append, List.mem_ite_nil_right, List.mem_singleton] <;> grind

theorem lkuOut_fromLku (s : State) (a b : Lku) (w : LkuWork) :
    ∀ x ∈ (lkuOut s a b w).events, FromLkuIfToLbu x := by
  simp only [lkuOut, List.mem_append, mem_unlessEmpty, List.mem_ite_nil_left, mem_toBlocks, FromLkuIfToLbu]
  grind

/-! ## A valve in WAITING or FAULTED -/

/-- The valve can leave its state only at its own timer, at the inputs, at a request or with the configuration (R54,
R55, R59, R60). -/
def Valve.AtRest (v : Valve) : Prop := v.state = .waiting ∨ v.state = .faulted

/-- An LKU publication opens a CLOSED valve or closes an OPEN one, and no other (R54, R56). -/
theorem valveLockouts_atRest {v : Valve} (h : v.AtRest) (s : State) : valveLockouts s v = v := by
  obtain h | h := h <;> simp [valveLockouts, openIfClosed, h]

theorem State.lbuEvent_atRest {s : State} (h : s.lbu.valve.AtRest) (changed : List Target) :
    s.lbuEvent (.lockouts changed) = s ∨ s.lbuEvent (.lockouts changed) = s.lbuTakes s.lbu [] := by
  rw [State.lbuEvent]
  split
  · rw [valveLockouts_atRest h]
    exact .inr rfl
  · exact .inl rfl

/-- What a delivery comes to for the Level Band Unit: it stands as it was, and what is handed over is for it only where
the Lockout Unit publishes. -/
def LbuPassedBy (s t : State) : Prop :=
  t.lbu = s.lbu ∧ ∃ events, t.agenda = s.agenda ++ events ∧ ∀ x ∈ events, FromLkuIfToLbu x

theorem LbuPassedBy.refl (s : State) : LbuPassedBy s s := ⟨rfl, [], by simp, by simp⟩

/-- A delivery that hands over nothing for the Level Band Unit. -/
theorem LbuPassedBy.of_notToLbu {s t : State} {events : List (Block × Event)} (hlbu : t.lbu = s.lbu)
    (hagenda : t.agenda = s.agenda ++ events) (h : ∀ x ∈ events, x.1 ≠ .lbu) : LbuPassedBy s t :=
  ⟨hlbu, events, hagenda, fun x hx hb => absurd hb (h x hx)⟩

theorem State.deliver_lbuPassedBy {s : State} (h : s.lbu.valve.AtRest) {b : Block} (hpfu : b ≠ .pfu) {e : Event}
    (hlku : FromLkuIfToLbu (b, e)) : LbuPassedBy s (s.deliver b e) := by
  cases b with
  | pfu => exact absurd rfl hpfu
  | isu | tgu => cases e <;> exact .of_notToLbu (events := []) rfl (by simp [State.deliver]) (by simp)
  | lbu =>
    obtain ⟨changed, rfl⟩ := hlku rfl
    obtain he | he := State.lbuEvent_atRest h changed <;> rw [State.deliver, he]
    · exact .refl s
    · exact .of_notToLbu rfl (State.lbuTakes_agenda s _ _) (lbuOut_notToLbu s _ _)
  | deu =>
    obtain he | ⟨w, he⟩ := s.deuEvent_cases e <;> rw [State.deliver, he]
    · exact .refl s
    · exact .of_notToLbu rfl (State.deuCommit_agenda s w) (deuOut_notToLbu s.deu w)
  | ppu =>
    obtain he | ⟨w, he⟩ := s.ppuEvent_cases e <;> rw [State.deliver, he]
    · exact .refl s
    · exact .of_notToLbu rfl (State.ppuCommit_agenda s w) (ppuOut_notToLbu s.ppu w)
  | lku =>
    obtain he | ⟨w, he⟩ := s.lkuEvent_cases e <;> rw [State.deliver, he]
    · exact .refl s
    · exact ⟨rfl, _, State.lkuCommit_agenda s w, lkuOut_fromLku s s.lku (lkuSettled s w.lku) w⟩
  | tau =>
    obtain he | ⟨w, he⟩ := s.tauEvent_cases e <;> rw [State.deliver, he]
    · exact .refl s
    · exact .of_notToLbu rfl (State.tauCommit_agenda s w) (tauOut_notToLbu s.tau w.settled)
  | drc =>
    obtain he | ⟨w, he⟩ := s.drcEvent_cases e <;> rw [State.deliver, he]
    · exact .refl s
    · exact .of_notToLbu rfl (State.drcCommit_agenda s w) (drcOut_notToLbu w)
  | lnk =>
    obtain he | ⟨body, he⟩ | ⟨r, -, he⟩ := s.lnkEvent_cases e <;> rw [State.deliver, he]
    · exact .refl s
    · exact .of_notToLbu (events := []) rfl (by simp) (by simp)
    · exact .of_notToLbu (events := []) rfl (by simp) (by simp)

/-- However long the chain of publications, it leaves the bands and a valve in WAITING or FAULTED as they are. -/
theorem settle_lbu (n : Nat) {s : State} (h : s.lbu.valve.AtRest) (hpfu : NotToPfu s.agenda)
    (hlku : ∀ x ∈ s.agenda, FromLkuIfToLbu x) : (settle n s).lbu = s.lbu := by
  refine settle_keeps (·.lbu = s.lbu) (fun x => x.1 ≠ .pfu ∧ FromLkuIfToLbu x) (fun _ ht => ht) ?_ n s rfl
    fun x hx => ⟨hpfu x hx, hlku x hx⟩
  intro t b e left hleft ⟨hb, he⟩ ht
  have rest : ({ t with agenda := left, schedule := t.schedule.drop 1 } : State).lbu.valve.AtRest := by
    simpa [ht] using h
  obtain ⟨-, others, hothers, hnot⟩ := State.deliver_pfuPassedBy
    { t with agenda := left, schedule := t.schedule.drop 1 } hb e
  obtain ⟨hlbu, events, hevents, hfrom⟩ := State.deliver_lbuPassedBy rest hb he
  obtain rfl : others = events := List.append_cancel_left (hothers.symm.trans hevents)
  refine ⟨hlbu.trans ht, ?_⟩
  rw [hevents]
  exact List.forall_mem_append.2 ⟨hleft, fun x hx => ⟨hnot x hx, hfrom x hx⟩⟩

/-- A command that changes no configuration and has nothing but lockouts for the Level Band Unit leaves the bands and a
valve in WAITING or FAULTED as its own effect did. -/
theorem State.finish_lbu {s : State} (h : s.lbu.valve.AtRest) (hconf : NoConf s.agenda) (hpfu : NotToPfu s.agenda)
    (hlku : ∀ x ∈ s.agenda, FromLkuIfToLbu x) (hr : s.lnk.restart = none) : s.finish.lbu = s.lbu := by
  have hr' : (settle Config.settleBound s).lnk.restart = none := by
    simpa [hr] using (Carried.settle Config.settleBound hconf).restart
  rw [State.finish, State.restartIfDue_none hr', settle_lbu _ h hpfu hlku]

end Sys2Proof.Machine

end

section
/-! PROOFS. The refill valve: when it opens and when it must close, its expiries, and CLEAR FILL FAULT. -/

namespace Sys2Proof.Machine

open Sys2Proof.Safety

/-! ## The opening conditions (R54) -/

theorem fillPressureGood_iff (s : State) : s.fillPressureGood = true ↔
    ∃ r p, s.refill = some r ∧ s.knownValue (.intakePressure r.pump) = some p ∧ r.minKPa ≤ p := by
  unfold State.fillPressureGood State.fillPressure
  cases s.refill with
  | none => simp
  | some r => cases hp : s.knownValue (.intakePressure r.pump) <;> simp [hp]

/-- What R54 asks for, with T0's band given. -/
structure OpeningConditions (s : State) (band : Band) : Prop where
  configured : s.pfu.conf = .configured
  enabled : (s.refill).map (·.enabled) = some true
  hydrant : s.level .hydrantIntakeOpen = true
  pressure : ∃ r p, s.refill = some r ∧ s.knownValue (.intakePressure r.pump) = some p ∧ r.minKPa ≤ p
  known : band ≠ .unknown
  belowFull : band ≠ .full
  allowed : s.effective .tankFill = false

theorem openingConditions_of_mayOpen {s : State} {band : Band} (h : mayOpen s band = true) :
    OpeningConditions s band := by
  simp only [mayOpen, Bool.and_eq_true, bne_iff_ne, Bool.not_eq_true', decide_eq_true_eq,
    fillPressureGood_iff] at h
  obtain ⟨⟨⟨⟨⟨⟨configured, enabled⟩, hydrant⟩, pressure⟩, known⟩, belowFull⟩, allowed⟩ := h
  refine ⟨configured, ?_, hydrant, pressure, known, belowFull, allowed⟩
  cases hr : s.refill <;> simp_all

/-! ## When the valve is OPEN after an event -/

/-- The valve, found in another state, opens: the conditions hold and the reclose timer does not run (R54). -/
def Opens (s : State) (band : Band) (v : Valve) : Prop := OpeningConditions s band ∧ v.reclose.isRunning = false

section
variable {s : State} {v : Valve}

theorem Opens.conditions {band : Band} (h : Opens s band v) :
    s.pfu.conf = .configured ∧ (s.refill).map (·.enabled) = some true ∧ s.level .hydrantIntakeOpen = true ∧
      (∃ r p, s.refill = some r ∧ s.knownValue (.intakePressure r.pump) = some p ∧ r.minKPa ≤ p) ∧
      band ≠ .unknown ∧ band ≠ .full ∧ s.effective .tankFill = false ∧ v.reclose.isRunning = false :=
  ⟨h.1.configured, h.1.enabled, h.1.hydrant, h.1.pressure, h.1.known, h.1.belowFull, h.1.allowed, h.2⟩

theorem opens_of_openIfClosed {band : Band} (hv : v.state ≠ .opened)
    (h : (openIfClosed s band v).state = .opened) : Opens s band v := by
  unfold openIfClosed at h
  split at h
  case isTrue hc => exact ⟨openingConditions_of_mayOpen hc.2.2, by simpa using hc.2.1⟩
  case isFalse => exact absurd h hv

theorem valveInputs_opened (h : (valveInputs s v).state = .opened) :
    s.level .hydrantIntakeOpen = true ∧ (v.state ≠ .opened → Opens s s.lbu.bands.t0.band v) := by
  unfold valveInputs at h
  split at h
  case h_1 hv =>
    split at h
    case isTrue => cases h
    case isFalse hl => exact ⟨by simpa using hl, fun hne => absurd hv hne⟩
  case h_2 hv =>
    split at h
    case isTrue => rw [hv] at h; cases h
    case isFalse => cases h
  case h_3 hv _ =>
    have opens := opens_of_openIfClosed hv h
    exact ⟨opens.1.hydrant, fun _ => opens⟩

theorem valveLockouts_opened (h : (valveLockouts s v).state = .opened) :
    s.effective .tankFill = false ∧ (v.state ≠ .opened → Opens s s.lbu.bands.t0.band v) := by
  unfold valveLockouts at h
  split at h
  case isTrue => cases h
  case isFalse hc =>
    by_cases hv : v.state = .opened
    · exact ⟨by simpa [hv] using hc, fun hne => absurd hv hne⟩
    · have opens := opens_of_openIfClosed hv h
      exact ⟨opens.1.allowed, fun _ => opens⟩

theorem valveGauges_opened {bands : PerTank BandRec} (h : (valveGauges s bands v).state = .opened) :
    bands.t0.band ≠ .full ∧ (s.tgu.gauges.t0.quality = .unknown → bands.t0.band ≠ .unknown) ∧
      (v.state ≠ .opened → Opens s bands.t0.band v) := by
  unfold valveGauges at h
  dsimp only at h
  split at h
  case h_1 hv =>
    split at h
    case isTrue => cases h
    case isFalse hfull =>
      split at h
      case isTrue => cases h
      case isFalse hq => exact ⟨hfull, fun hu => absurd hu hq, fun hne => absurd hv hne⟩
  case h_2 hv =>
    have opens := opens_of_openIfClosed hv h
    exact ⟨opens.1.belowFull, fun _ => opens.1.known, fun _ => opens⟩

theorem valveConf_opened {after : Conf} (h : (valveConf s after v).state = .opened) :
    after ≠ .applying ∧ v.state = .opened := by
  unfold valveConf at h
  split at h
  case h_1 => split at h <;> simp_all [closeValve]
  case h_2 => exact ⟨by simp, h⟩
  case h_3 =>
    split at h
    case isTrue hc => exact absurd (hc.symm.trans h) (by simp)
    case isFalse => cases h

end

theorem lbuBands_unknown {s : State} (h : s.tgu.gauges.t0.quality = .unknown) :
    (lbuBands s).t0.band = .unknown :=
  congrArg BandRec.band (bandStep_unknown h _)

/-- Settles O28, by the event taken. -/
theorem refillValveOpensOnlyWhenItMay : Obligations.RefillValveOpensOnlyWhenItMay := by
  intro s e t
  cases e with
  | inputs =>
    refine ⟨fun hs ht => ((valveInputs_opened ht).2 hs).conditions, fun ht => ?_⟩
    exact ⟨fun _ => (valveInputs_opened ht).1, nofun, nofun, nofun⟩
  | gauges =>
    refine ⟨fun hs ht => ?_, fun ht => ⟨nofun, nofun, fun _ => ?_, nofun⟩⟩
      <;> obtain ⟨hfull, hknown, hopens⟩ := valveGauges_opened ht
    · exact (hopens hs).conditions
    · exact ⟨hfull, fun hq => hknown hq (lbuBands_unknown hq)⟩
  | lockouts changed =>
    by_cases hc : Target.tankFill ∈ changed
    · have ht : t = s.lbuValve (valveLockouts s s.lbu.valve) := by simp [t, State.lbuEvent, hc]
      rw [ht]
      refine ⟨fun hs ht => ((valveLockouts_opened ht).2 hs).conditions, fun ht => ?_⟩
      exact ⟨nofun, fun _ _ _ => (valveLockouts_opened ht).1, nofun, nofun⟩
    · have ht : t = s := by simp [t, State.lbuEvent, hc]
      rw [ht]
      refine ⟨fun hs ht => absurd ht hs, fun _ => ⟨nofun, ?_, nofun, nofun⟩⟩
      rintro changed' ⟨⟩ hc'
      exact absurd hc' hc
  | conf before after =>
    refine ⟨fun hs ht => absurd (valveConf_opened ht).2 hs, fun ht => ⟨nofun, nofun, nofun, ?_⟩⟩
    rintro c ⟨⟩
    exact (valveConf_opened ht).1 rfl
  | _ => exact ⟨fun hs ht => absurd ht hs, fun _ => ⟨nofun, nofun, nofun, nofun⟩⟩

end Sys2Proof.Machine

end

section
/-! PROOFS. The refill valve's timers and CLEAR FILL FAULT. -/

namespace Sys2Proof.Machine

open Sys2Proof.Safety

/-! ## What an event of the Level Band Unit leaves unchanged -/

/-- Notices handed over change the notice queue, ATTN# and the lost-notice count alone (R173). -/
theorem noticesOnly_posts (news : List News) (time : Nat) (l : Lnk) :
    NoticesOnly l (news.foldl (fun l n => l.post time n) l) := by
  obtain ⟨hrx, hgap, hservice, hwaiting, hrestart, hmask, hfaults, hbaud⟩ := Lnk.posts_frame news time l
  unfold NoticesOnly
  rw [← hrx, ← hgap, ← hservice, ← hwaiting, ← hrestart, ← hmask, ← hfaults, ← hbaud]

/-- The request in service is answered, whatever notices were handed over. -/
theorem noticesOnly_answer {a b : Lnk} {kind tag : Byte} {reply : Option (List Byte)}
    (h : NoticesOnly { a with service := some ⟨kind, tag, reply⟩ } b) (body : List Byte) :
    NoticesOnly { a with service := some ⟨kind, tag, some (replyFrame kind tag body)⟩ } (b.answer body) := by
  rw [NoticesOnly] at h
  rw [h]
  rfl

/-- Only the Level Band Unit acts. -/
theorem othersKept_lbu (s : State) (now : Micros) (lbu : Lbu) (lnk : Lnk) (agenda : List (Block × Event)) :
    OthersKept .lbu s
      { s with now := now, lbu := lbu, lnk := lnk, agenda := agenda, port := s.port.serve } :=
  ⟨fun _ => rfl, fun _ => rfl, fun h => absurd rfl h, fun _ => rfl, fun _ => rfl, fun _ => rfl, fun _ => rfl,
    fun _ => rfl, fun _ => rfl, fun _ _ => rfl, rfl, rfl, rfl⟩

theorem State.lbuValve_acts (s : State) (time : Micros) (v : Valve) :
    Acts .lbu time s ((s.beginAt time).lbuValve v) :=
  ⟨rfl, othersKept_lbu s _ _ _ _, noticesOnly_posts _ _ _⟩

/-! ## The timers (R54 to R58) -/

theorem valveRecloseExpired_waiting {v : Valve} (h : v.state = .waiting) (s : State) :
    valveRecloseExpired s v =
      if mayOpen s s.lbu.bands.t0.band then openValve s { v with reclose := .stopped }
      else { v with reclose := .stopped, state := .closed, cause := some .gapEnded } := by
  simp only [valveRecloseExpired, h]

theorem valveRecloseExpired_closed {v : Valve} (h : v.state = .closed) (s : State) :
    valveRecloseExpired s v =
      if mayOpen s s.lbu.bands.t0.band then openValve s { v with reclose := .stopped }
      else { v with reclose := .stopped } := by
  simp [valveRecloseExpired, openIfClosed, h, Timer.isRunning]

theorem valveLowPressureExpired_opened {v : Valve} (h : v.state = .opened) (s : State) :
    valveLowPressureExpired s v =
      ⟨.waiting, some .lowPressure, false, .running (s.now + 5000000), .stopped, .stopped⟩ := by
  simp only [valveLowPressureExpired, h]
  rfl

theorem valveNoRiseExpired_opened {v : Valve} (h : v.state = .opened) (s : State) :
    valveNoRiseExpired s v =
      ⟨.faulted, some .noRise, false, .running (s.now + 5000000), .stopped, .stopped⟩ := by
  simp only [valveNoRiseExpired, h]
  rfl

/-- With no restart pending, an event that takes the valve to WAITING or FAULTED has its neighbours leave the valve, the
bands, the inputs, the gauges and the profile as they then are. -/
theorem State.lbuValve_finish {s : State} (hr : s.lnk.restart = none) (time : Micros) {v : Valve}
    (hv : v.AtRest) :
    let t := ((s.beginAt time).lbuValve v).finish
    t.now = time ∧ InputsAndProfileKept s t ∧ t.lbu.bands = s.lbu.bands ∧ t.lbu.valve = v := by
  intro t
  have own : PassedOn (s.beginAt time) ((s.beginAt time).lbuValve v) := State.lbuTakes_passedOn _ _ _
  have quiet : NoConf ((s.beginAt time).lbuValve v).agenda := lbuOut_noConf _ _ _
  have others : NotToPfu ((s.beginAt time).lbuValve v).agenda := lbuOut_notToPfu _ _ _
  have restart : ((s.beginAt time).lbuValve v).lnk.restart = none := by simpa [hr] using own.1.restart
  have carried : Carried (s.beginAt time) t := own.1.trans (.finish quiet restart)
  have pfu : t.pfu = s.pfu := State.finish_pfu quiet others restart
  have lbu : t.lbu = { s.lbu with valve := v } := State.finish_lbu hv quiet others
    (fun x hx hb => absurd hb (lbuOut_notToLbu _ _ _ x hx)) restart
  exact ⟨carried.now, ⟨carried.isu, carried.tgu, pfu, carried.ratePinHigh, carried.pending, carried.rx,
    carried.gapTimer, carried.waiting, carried.mask, carried.faults, carried.baudHigh⟩, by rw [lbu], by rw [lbu]⟩

theorem exec_recloseTimerExpiry {s : State} {due : Micros} (h : s.lbu.valve.reclose = .running due) :
    exec .recloseTimerExpiry s = .next ((s.beginAt (max s.now due)).lbuValve
      (valveRecloseExpired (s.beginAt (max s.now due)) s.lbu.valve)).finish := by
  simp only [exec, execRecloseTimerExpiry, atExpiry_running h, State.beginAt_lbu]

theorem exec_lowPressureTimerExpiry {s : State} {due : Micros} (h : s.lbu.valve.lowPressure = .running due)
    (hv : s.lbu.valve.state = .opened) :
    exec .lowPressureTimerExpiry s = .next ((s.beginAt (max s.now due)).lbuValve
      ⟨.waiting, some .lowPressure, false, .running (max s.now due + 5000000), .stopped, .stopped⟩).finish := by
  simp only [exec, execLowPressureTimerExpiry, atExpiry_running h, State.beginAt_lbu,
    valveLowPressureExpired_opened hv, State.beginAt_now]

theorem exec_noRiseTimerExpiry {s : State} {due : Micros} (h : s.lbu.valve.noRise = .running due)
    (hv : s.lbu.valve.state = .opened) :
    exec .noRiseTimerExpiry s = .next ((s.beginAt (max s.now due)).lbuValve
      ⟨.faulted, some .noRise, false, .running (max s.now due + 5000000), .stopped, .stopped⟩).finish := by
  simp only [exec, execNoRiseTimerExpiry, atExpiry_running h, State.beginAt_lbu,
    valveNoRiseExpired_opened hv, State.beginAt_now]

/-- Settles O27, by the three timers. -/
theorem fillExpiriesComplete : Obligations.FillExpiriesComplete := by
  intro s due time opened
  refine ⟨fun hv hr ht => ?lowPressure, fun hv hr ht => ?noRise, fun ht => ?reclose⟩
  case lowPressure =>
    exact ⟨_, exec_lowPressureTimerExpiry ht hv, State.lbuValve_finish hr time (.inl rfl)⟩
  case noRise =>
    exact ⟨_, exec_noRiseTimerExpiry ht hv, State.lbuValve_finish hr time (.inr rfl)⟩
  case reclose =>
    refine ⟨_, exec_recloseTimerExpiry ht, State.lbuValve_acts s time _, rfl, fun hv => ?waiting,
      fun hv => ?closed⟩
    case waiting => exact valveRecloseExpired_waiting hv (s.beginAt time)
    case closed => exact valveRecloseExpired_closed hv (s.beginAt time)

/-! ## CLEAR FILL FAULT (R59) -/

/-- CLEAR_FILL_FAULT with the link free is taken at once. -/
theorem exec_clearFillFault {s : State} (h : LinkFree s) (dt : Micros) (tag : Byte) :
    exec (.clearFillFault dt tag) s = .next (s.inService (s.now + dt) 0x1A#8 tag).clearFill.finish :=
  exec_own (c := .clearFillFault dt tag) rfl h rfl rfl

theorem State.clearFill_faulted {s : State} (h : s.lbu.valve.state = .faulted) :
    s.clearFill = (s.lbuValve (leaveFaulted .cleared s.lbu.valve)).answerStatus .ok := if_pos h

theorem State.clearFill_refused {s : State} (h : s.lbu.valve.state ≠ .faulted) :
    s.clearFill = s.answerStatus (.refused .state) := if_neg h

/-- A valve that leaves FAULTED withdraws the FILL_FAULT cause (R59). -/
theorem withdraw_mem_lbuOut {s : State} (h : s.lbu.valve.state = .faulted) {a : Lbu}
    (ha : a.valve.state ≠ .faulted) (r : List RecordBody) :
    (Block.ppu, Event.alarms [.withdraw .fillFault]) ∈ (lbuOut s a r).events := by
  simp [lbuOut, fillFaultOps, h, ha, unlessEmpty]

/-- Settles O29, by the state of the valve. -/
theorem clearFillFaultCompletes : Obligations.ClearFillFaultCompletes := by
  intro dt tag s hfree
  refine ⟨fun hv => ?faulted, fun hv => ?other⟩
  case faulted =>
    refine ⟨_, exec_clearFillFault hfree dt tag, ?_⟩
    rw [State.clearFill_faulted (s := s.inService _ _ _) hv]
    refine ⟨⟨rfl, othersKept_lbu s _ _ _ _, noticesOnly_answer (noticesOnly_posts _ _ _) _⟩, rfl, rfl, ?_⟩
    exact withdraw_mem_lbuOut hv (by simp [leaveFaulted]) []
  case other =>
    rw [exec_clearFillFault hfree, State.clearFill_refused (s := s.inService _ _ _) hv]
    exact congrArg _ (State.finish_quiet (s := (s.inService _ _ _).answerStatus _) rfl hfree.2)

end Sys2Proof.Machine

end

section
/-! PROOFS. The alarm cause set and SILENCE_ALARM. -/

namespace Sys2Proof.Machine

open Sys2Proof.Safety

/-! ## Posts and withdrawals of one event (R107) -/

theorem mem_alarmOp_withdraw {alarms : List Alarm} {c : AlarmCause} {a : Alarm} :
    a ∈ alarmOp alarms (.withdraw c) ↔ a ∈ alarms ∧ a.cause ≠ c := by
  simp [alarmOp]

theorem mem_alarmOp_post {alarms : List Alarm} {c : AlarmCause} {a : Alarm} :
    a ∈ alarmOp alarms (.post c) ↔ a ∈ alarms ∨ (a = ⟨c, false⟩ ∧ ∀ b ∈ alarms, b.cause ≠ c) := by
  simp only [alarmOp]
  split
  case isTrue h =>
    have : ¬ ∀ b ∈ alarms, b.cause ≠ c := by simpa using h
    simp only [this, and_false, or_false]
  case isFalse h =>
    have : ∀ b ∈ alarms, b.cause ≠ c := by simpa using h
    simp [and_iff_left this]

theorem alarmOp_nodup {alarms : List Alarm} (h : (alarms.map (·.cause)).Nodup) (op : SetOp AlarmCause) :
    ((alarmOp alarms op).map (·.cause)).Nodup := by
  cases op with
  | withdraw c => exact h.sublist (List.filter_sublist.map _)
  | post c =>
    simp only [alarmOp]
    split
    case isTrue => exact h
    case isFalse hc =>
      have : ∀ a ∈ alarms, a.cause ≠ c := by simpa using hc
      simpa [List.nodup_append, h] using this

/-- No list of posts and withdrawals puts a cause into the set twice (R107). -/
theorem alarmsAfter_nodup (ops : List (SetOp AlarmCause)) {alarms : List Alarm}
    (h : (alarms.map (·.cause)).Nodup) : ((alarmsAfter alarms ops).map (·.cause)).Nodup := by
  induction ops generalizing alarms with
  | nil => exact h
  | cons op rest ih => exact ih (alarmOp_nodup h op)

theorem mem_alarmsAfter_withdrawals {ops : List (SetOp AlarmCause)} (h : ∀ op ∈ ops, op.isPost = false)
    {alarms : List Alarm} {a : Alarm} :
    a ∈ alarmsAfter alarms ops ↔ a ∈ alarms ∧ .withdraw a.cause ∉ ops := by
  induction ops generalizing alarms with
  | nil => simp [alarmsAfter]
  | cons op rest ih =>
    cases op with
    | post c => cases h _ (.head _)
    | withdraw c =>
      refine (ih fun op hop => h op (.tail _ hop)).trans ?_
      rw [mem_alarmOp_withdraw]
      simp [and_assoc]

/-- A cause enters once, unsilenced, unless it is there (R107). -/
theorem mem_alarmsAfter_posts {ops : List (SetOp AlarmCause)} (h : ∀ op ∈ ops, op.isPost = true)
    {alarms : List Alarm} {a : Alarm} :
    a ∈ alarmsAfter alarms ops ↔
      a ∈ alarms ∨ (.post a.cause ∈ ops ∧ a.silenced = false ∧ ∀ b ∈ alarms, b.cause ≠ a.cause) := by
  induction ops generalizing alarms with
  | nil => simp [alarmsAfter]
  | cons op rest ih =>
    cases op with
    | withdraw c => cases h _ (.head _)
    | post c =>
      refine (ih fun op hop => h op (.tail _ hop)).trans ?_
      obtain ⟨cause, silenced⟩ := a
      simp only [mem_alarmOp_post, List.mem_cons]
      grind

theorem alarmsAfter_append (alarms : List Alarm) (xs ys : List (SetOp AlarmCause)) :
    alarmsAfter alarms (xs ++ ys) = alarmsAfter (alarmsAfter alarms xs) ys := List.foldl_append

/-- The set after an event: the former members that were not withdrawn, each with its flag, and the causes posted that
did not stay in it, unsilenced (R107, R108). -/
theorem mem_alarmsAfter_withdrawalsFirst {alarms : List Alarm} {ops : List (SetOp AlarmCause)} {a : Alarm} :
    a ∈ alarmsAfter alarms (withdrawalsFirst ops) ↔
      (a ∈ alarms ∧ .withdraw a.cause ∉ ops) ∨
      (.post a.cause ∈ ops ∧ a.silenced = false ∧
        ((∀ b ∈ alarms, b.cause ≠ a.cause) ∨ .withdraw a.cause ∈ ops)) := by
  have stays (b : Alarm) : b ∈ alarmsAfter alarms (ops.filter fun op => !op.isPost) ↔
      b ∈ alarms ∧ .withdraw b.cause ∉ ops := by
    rw [mem_alarmsAfter_withdrawals (by simp)]
    simp [SetOp.isPost]
  have absent : (∀ b ∈ alarmsAfter alarms (ops.filter fun op => !op.isPost), b.cause ≠ a.cause) ↔
      (∀ b ∈ alarms, b.cause ≠ a.cause) ∨ .withdraw a.cause ∈ ops := by
    by_cases hw : SetOp.withdraw a.cause ∈ ops
    · simp only [hw, or_true, iff_true]
      exact fun b hb he => ((stays b).1 hb).2 (he ▸ hw)
    · simp only [hw, or_false]
      exact ⟨fun h b hb he => h b ((stays b).2 ⟨hb, he ▸ hw⟩) he, fun h b hb => h b ((stays b).1 hb).1⟩
  rw [withdrawalsFirst, alarmsAfter_append, mem_alarmsAfter_posts (by simp), stays, absent]
  simp [SetOp.isPost]

/-! ## What an event of the Pump Protection Unit leaves unchanged -/

/-- Only the Pump Protection Unit acts. -/
theorem othersKept_ppu (s : State) (now : Micros) (ppu : Ppu) (lnk : Lnk) (agenda : List (Block × Event)) :
    OthersKept .ppu s
      { s with now := now, ppu := ppu, lnk := lnk, agenda := agenda, port := s.port.serve } :=
  ⟨fun _ => rfl, fun _ => rfl, fun _ => rfl, fun _ => rfl, fun h => absurd rfl h, fun _ => rfl, fun _ => rfl,
    fun _ => rfl, fun _ => rfl, fun _ _ => rfl, rfl, rfl, rfl⟩

theorem State.ppuCommit_acts (s : State) (time : Micros) (w : PpuWork) :
    Acts .ppu time s ((s.beginAt time).ppuCommit w) :=
  ⟨rfl, othersKept_ppu s _ _ _ _, noticesOnly_posts _ _ _⟩

/-! ## SILENCE ALARM (R108, R109) -/

/-- SILENCE_ALARM with the link free is taken at once. -/
theorem exec_silenceAlarm {s : State} (h : LinkFree s) (dt : Micros) (tag : Byte) :
    exec (.silenceAlarm dt tag) s = .next (s.inService (s.now + dt) 0x19#8 tag).silence.finish :=
  exec_own (c := .silenceAlarm dt tag) rfl h rfl rfl

/-- No member of a silenced set sounds the horn (R109). -/
theorem hornSounds_silenced (alarms : List Alarm) :
    hornSounds (alarms.map fun a => { a with silenced := true }) = false := by
  simp [hornSounds]

/-- Silencing marks every member and stops the horn; DO8 follows watches that it does not touch (R102, R108, R109). -/
theorem ppuSettled_silence {u : Ppu} (h : ppuOutputs u = u) :
    ppuSettled (bodySilence { ppu := u }) =
      { u with alarms := u.alarms.map fun a => { a with silenced := true }, do9 := false } := by
  have do8 : u.watches.main.overheat.state.acting = u.do8 := congrArg Ppu.do8 h
  have do9 := hornSounds_silenced u.alarms
  simp only [ppuSettled, ppuOutputs, bodySilence, withdrawalsFirst, alarmsAfter, List.filter_nil, List.nil_append,
    List.foldl_nil, do8, do9]

/-- Settles O40: the request by what silencing makes of the unit, and the set by its withdrawals and then its posts. -/
theorem silenceAlarmCompletes : Obligations.SilenceAlarmCompletes := by
  refine ⟨fun dt tag s hfree hout => ?request, fun alarms ops hnodup => ?set⟩
  case request =>
    exact ⟨_, exec_silenceAlarm hfree dt tag,
      ⟨rfl, othersKept_ppu s _ _ _ _, noticesOnly_answer (noticesOnly_posts _ _ _) _⟩, ppuSettled_silence hout⟩
  case set =>
    exact ⟨alarmsAfter_nodup _ hnodup, fun _ => mem_alarmsAfter_withdrawalsFirst⟩

end Sys2Proof.Machine

end

section
/-! PROOFS. The pump watches: the expiries of their timers. -/

namespace Sys2Proof.Machine

open Sys2Proof.Safety

/-! ## A watch of a pump, read and written -/

section

variable {α : Type} (x : PerDrive α) (d : Drive)

@[simp] theorem PerDrive.get_set_self (a : α) : (x.set d a).get d = a := by cases d <;> rfl

theorem PerDrive.get_set_other {d e : Drive} (h : e ≠ d) (a : α) : (x.set d a).get e = x.get e := by
  cases d <;> cases e <;> simp [PerDrive.get, PerDrive.set] at h ⊢

@[simp] theorem PerDrive.set_set (a b : α) : (x.set d a).set d b = x.set d b := by cases d <;> rfl

end

section

variable (x : PumpWatches) {k j : Watch}

@[simp] theorem PumpWatches.get_set_self (k : Watch) (r : WatchRec) : (x.set k r).get k = r := by
  cases k <;> rfl

theorem PumpWatches.get_set_other (h : j ≠ k) (r : WatchRec) : (x.set k r).get j = x.get j := by
  cases k <;> cases j <;> simp [PumpWatches.get, PumpWatches.set] at h ⊢

@[simp] theorem PumpWatches.set_set (k : Watch) (r q : WatchRec) : (x.set k r).set k q = x.set k q := by
  cases k <;> rfl

end

section

variable (w : PpuWork) {d e : Drive} {k j : Watch} (r : WatchRec)

@[simp] theorem PpuWork.watch_setWatch_self (d : Drive) (k : Watch) : (w.setWatch d k r).watch d k = r := by
  simp [PpuWork.watch, PpuWork.setWatch]

/-- Writing one watch leaves every other, of this pump or of the other one. -/
theorem PpuWork.watch_setWatch_other (h : e ≠ d ∨ j ≠ k) : (w.setWatch d k r).watch e j = w.watch e j := by
  by_cases he : e = d
  · subst he
    have hj : j ≠ k := h.resolve_left (absurd rfl)
    simp [PpuWork.watch, PpuWork.setWatch, PumpWatches.get_set_other _ hj]
  · simp [PpuWork.watch, PpuWork.setWatch, PerDrive.get_set_other _ he]

@[simp] theorem PpuWork.setWatch_setWatch (d : Drive) (k : Watch) (q : WatchRec) :
    (w.setWatch d k r).setWatch d k q = w.setWatch d k q := by
  simp [PpuWork.setWatch]

end

/-! ## The unit after an event (R102, R106) -/

/-- DO8 asserted is MAIN's OVERHEAT watch TRIPPED or RECOVERING (R102). -/
theorem State.ppuCommit_do8 (s : State) (w : PpuWork) :
    (s.ppuCommit w).ppu.do8 = (s.ppuCommit w).ppu.watches.main.overheat.state.acting := rfl

theorem cuts_mem_ppuOut {w : PpuWork} {c : SetOp Cut} {cs : List (SetOp Cut)} (h : w.cuts = c :: cs) (u : Ppu) :
    (Block.tau, Event.cuts (c :: cs)) ∈ (ppuOut u w).events := by
  simp [ppuOut, h, unlessEmpty]

theorem records_mem_ppuOut {w : PpuWork} {r : RecordBody} {rs : List RecordBody} (h : w.records = r :: rs)
    (u : Ppu) : (Block.drc, Event.records (r :: rs)) ∈ (ppuOut u w).events := by
  simp [ppuOut, h, unlessEmpty]

/-! ## A watch enters CLEAR (R100, R104) -/

/-- A watch that had tripped enters CLEAR: its record but for the health is as after a reset, its alarm cause and the
cut it posted are withdrawn, and the clear is told and recorded (R100, R104, R106). -/
theorem clearWatch_acting {w : PpuWork} {d : Drive} {k : Watch} (h : (w.watch d k).state.acting = true)
    (c : WatchCause) :
    clearWatch d k c w =
      { w.setWatch d k ⟨.clear, (w.watch d k).health, .stopped, none, .stopped, false, false⟩ with
        ops := w.ops ++ [.withdraw (.watch d k)]
        cuts := if (w.watch d k).cutPosted then w.cuts ++ [.withdraw (.watch d k)] else w.cuts
        news := w.news ++ [protectionNews d k .clear c (w.watch d k).peak none]
        records := w.records ++ [.protection d k false (w.watch d k).peak c none] } := by
  simp only [clearWatch, h, if_true]
  rfl

/-- The unit once an event has taken a watch that had tripped to CLEAR, and what it hands over (R100, R102, R104,
R106). -/
theorem State.ppuCommit_clearWatch {s : State} {d : Drive} {k : Watch}
    (h : ((s.ppu.watches.get d).get k).state.acting = true) (time : Micros) (c : WatchCause) :
    let r := (s.ppu.watches.get d).get k
    let u := (s.beginAt time).ppuCommit (clearWatch d k c { ppu := s.ppu })
    u.ppu.watches = s.ppu.watches.set d ((s.ppu.watches.get d).set k
      ⟨.clear, r.health, .stopped, none, .stopped, false, false⟩) ∧
    (∀ a, a ∈ u.ppu.alarms ↔ a ∈ s.ppu.alarms ∧ a.cause ≠ .watch d k) ∧
    (r.cutPosted = true → (Block.tau, Event.cuts [.withdraw (.watch d k)]) ∈ u.agenda) ∧
    (Block.drc, Event.records [.protection d k false r.peak c none]) ∈ u.agenda := by
  rw [clearWatch_acting (w := { ppu := s.ppu }) h c]
  exact ⟨rfl, fun _ => mem_alarmOp_withdraw, fun hcut => cuts_mem_ppuOut (if_pos hcut) _,
    records_mem_ppuOut rfl _⟩

/-! ## The persist timer of a threshold watch (R100) -/

theorem cutsThrottle_thresholdWatch (k : Threshold) : cutsThrottle (thresholdWatch k) = decide (k ≠ .overheat) := by
  cases k <;> rfl

section

variable {s : State} {d : Drive} {k : Threshold} {w : PpuWork}

theorem thresholdExpired_pending (h : (w.watch d (thresholdWatch k)).state = .pending) :
    thresholdExpired s d k w =
      tripActions d (thresholdWatch k) (decide (k ≠ .overheat)) (s.knownValue (watchRole d (thresholdWatch k))) none
        (w.setWatch d (thresholdWatch k)
          { w.watch d (thresholdWatch k) with
            state := .tripped, persist := .stopped, peak := s.knownValue (watchRole d (thresholdWatch k))
            cutPosted := decide (k ≠ .overheat) }) := by
  simp only [thresholdExpired, h, cutsThrottle_thresholdWatch]

theorem thresholdExpired_recovering (h : (w.watch d (thresholdWatch k)).state = .recovering) :
    thresholdExpired s d k w = clearWatch d (thresholdWatch k) .cleared w := by
  simp only [thresholdExpired, h]

end

theorem exec_persistTimerExpiry {s : State} {d : Drive} {k : Threshold} {due : Micros}
    (h : ((s.ppu.watches.get d).get (thresholdWatch k)).persist = .running due) :
    exec (.persistTimerExpiry d k) s = .next
      ((s.beginAt (max s.now due)).ppuCommit (thresholdExpired s d k { ppu := s.ppu })).finish := by
  simp only [exec, execPersistTimerExpiry, atExpiry_running h]
  rfl

/-- Settles O38, by the state of the watch. -/
theorem persistExpiryTripsOrClears : Obligations.PersistExpiryTripsOrClears := by
  intro d k s due w r hdue
  refine ⟨fun hpending => ?pending, fun hrecovering => ?recovering⟩
  case pending =>
    refine ⟨_, exec_persistTimerExpiry hdue, State.ppuCommit_acts s _ _, ?_⟩
    rw [thresholdExpired_pending (w := { ppu := s.ppu }) hpending]
    refine ⟨rfl, ?alarm, fun a ha => (mem_alarmOp_post.1 ha).imp_right And.left,
      fun a ha => mem_alarmOp_post.2 (.inl ha), ?do8,
      fun hk => cuts_mem_ppuOut (if_pos (decide_eq_true hk)) _, records_mem_ppuOut rfl _⟩
    case alarm =>
      exact (cause_mem_alarmsAfter (.watch d w) [.post (.watch d w)] s.ppu.alarms).2 (.inl (by simp [lastingOps]))
    case do8 =>
      rintro rfl rfl
      rfl
  case recovering =>
    have hacting : r.state.acting = true := congrArg WatchState.acting hrecovering
    obtain ⟨hwatches, halarms, hcut, hrecord⟩ := State.ppuCommit_clearWatch hacting (max s.now due) .cleared
    refine ⟨_, exec_persistTimerExpiry hdue, State.ppuCommit_acts s _ _, ?_⟩
    rw [thresholdExpired_recovering (w := { ppu := s.ppu }) hrecovering]
    refine ⟨hwatches, halarms, ?_, hcut, hrecord⟩
    rintro rfl rfl
    rw [State.ppuCommit_do8, hwatches]
    rfl

end Sys2Proof.Machine

end

section
/-! PROOFS. The dry-run watch: its expiries, and the watches of a pump that does not run. -/

namespace Sys2Proof.Machine

open Sys2Proof.Safety

/-! ## The cut of the dry-run watch (R104) -/

/-- The cut test asks for a cut: TRIPPED, the dry time over, none posted, and the intake pressure known and at or below
0 (R104). -/
def CutDue (s : State) (d : Drive) (r : WatchRec) : Prop :=
  r.state = .tripped ∧ r.dryElapsed = true ∧ r.cutPosted = false ∧ ∃ v, s.intake d = some v ∧ v ≤ 0

section

variable {s : State} {d : Drive} {w : PpuWork}

theorem cutTest_due (h : CutDue s d (w.watch d .dryRun)) :
    cutTest s d w =
      { w.setWatch d .dryRun { w.watch d .dryRun with cutPosted := true } with
        cuts := w.cuts ++ [.post (.watch d .dryRun)]
        news := w.news ++ [protectionNews d .dryRun .tripped .cut (s.intake d) none] } := by
  obtain ⟨hstate, helapsed, hposted, v, hv, hv0⟩ := h
  simp [cutTest, hstate, helapsed, hposted, hv, hv0]

theorem cutTest_not_due (h : ¬ CutDue s d (w.watch d .dryRun)) : cutTest s d w = w := by
  refine if_neg fun ⟨hstate, helapsed, hposted, hstarved⟩ => h ⟨hstate, helapsed, by simpa using hposted, ?_⟩
  cases hv : s.intake d with
  | none => simp [hv] at hstarved
  | some v => exact ⟨v, rfl, by simpa [hv] using hstarved⟩

end

/-! ## The expiries of the dry-run watch (R104) -/

section

variable {s : State} {d : Drive} {w : PpuWork}

/-- The dry time ends with the cut due. -/
theorem dryExpired_due (h : CutDue s d { w.watch d .dryRun with dry := .stopped, dryElapsed := true }) :
    dryExpired s d w =
      { w.setWatch d .dryRun { w.watch d .dryRun with dry := .stopped, dryElapsed := true, cutPosted := true } with
        cuts := w.cuts ++ [.post (.watch d .dryRun)]
        news := w.news ++ [protectionNews d .dryRun .tripped .cut (s.intake d) none] } := by
  rw [dryExpired, cutTest_due (by rwa [PpuWork.watch_setWatch_self]), PpuWork.watch_setWatch_self,
    PpuWork.setWatch_setWatch]
  rfl

/-- The dry time ends with no cut due. -/
theorem dryExpired_not_due (h : ¬ CutDue s d { w.watch d .dryRun with dry := .stopped, dryElapsed := true }) :
    dryExpired s d w =
      w.setWatch d .dryRun { w.watch d .dryRun with dry := .stopped, dryElapsed := true } := by
  rw [dryExpired, cutTest_not_due (by rwa [PpuWork.watch_setWatch_self])]

end

theorem dryClearExpired_recovering {w : PpuWork} {d : Drive} (h : (w.watch d .dryRun).state = .recovering) :
    dryClearExpired d w = clearWatch d .dryRun .cleared w := by
  simp only [dryClearExpired, h]

theorem exec_dryTimerExpiry {s : State} {d : Drive} {due : Micros}
    (h : (s.ppu.watches.get d).dryRun.dry = .running due) :
    exec (.dryTimerExpiry d) s = .next
      ((s.beginAt (max s.now due)).ppuCommit (dryExpired s d { ppu := s.ppu })).finish := by
  simp only [exec, execDryTimerExpiry, atExpiry_running h]
  rfl

theorem exec_dryRunClearExpiry {s : State} {d : Drive} {due : Micros}
    (h : (s.ppu.watches.get d).dryRun.persist = .running due) :
    exec (.dryRunClearExpiry d) s = .next
      ((s.beginAt (max s.now due)).ppuCommit (dryClearExpired d { ppu := s.ppu })).finish := by
  simp only [exec, execDryRunClearExpiry, atExpiry_running h]
  rfl

/-! ## Which watches an operation leaves as they are -/

section

variable {s : State} {d e : Drive} {j : Watch} {w : PpuWork}

theorem cutTest_watch_other (h : e ≠ d ∨ j ≠ .dryRun) : (cutTest s d w).watch e j = w.watch e j := by
  by_cases hcut : CutDue s d (w.watch d .dryRun)
  · rw [cutTest_due hcut]
    exact PpuWork.watch_setWatch_other w _ h
  · rw [cutTest_not_due hcut]

theorem dryRunStep_watch_other (h : e ≠ d ∨ j ≠ .dryRun) : (dryRunStep s d w).watch e j = w.watch e j := by
  have written (r : WatchRec) : (w.setWatch d .dryRun r).watch e j = w.watch e j :=
    PpuWork.watch_setWatch_other w r h
  simp only [dryRunStep]
  split
  · rfl
  · split
    · exact written _
    · exact cutTest_watch_other h
    · exact written _
    · exact (cutTest_watch_other h).trans (written _)
    · rfl

theorem dryRunPeak_watch_other (h : e ≠ d ∨ j ≠ .dryRun) : (dryRunPeak s d w).watch e j = w.watch e j := by
  simp only [dryRunPeak]
  split
  · exact PpuWork.watch_setWatch_other w _ h
  · rfl

theorem thresholdInputs_watch_other {k : Threshold} (h : e ≠ d ∨ j ≠ thresholdWatch k) :
    (thresholdInputs s d k w).watch e j = w.watch e j := by
  simp only [thresholdInputs]
  split
  · exact PpuWork.watch_setWatch_other w _ h
  · rfl

@[simp] theorem overheatWarn_watch : (overheatWarn s d w).watch e j = w.watch e j := by
  simp only [overheatWarn]
  split
  · rfl
  · split <;> rfl

@[simp] theorem tankReserve_watch : (tankReserve s w).watch e j = w.watch e j := rfl

end

/-! ## The watches of a pump at an ISU publication (R96, R99, R102) -/

/-- A pump's watches with their input healths brought up to date, before any of them is evaluated (R96, R99). -/
def PpuWork.refreshed (s : State) (d : Drive) (w : PpuWork) : PpuWork :=
  { w with ppu := { w.ppu with
    watches := w.ppu.watches.set d (freshHealths s d (w.ppu.watches.get d))
    started := w.ppu.started.set d (w.ppu.started.get d || s.pumpRuns d) } }

/-- The order in which a pump's watches are evaluated (R102). -/
theorem pumpInputs_eq (s : State) (d : Drive) (w : PpuWork) :
    pumpInputs s d w = overheatWarn s d (dryRunPeak s d (dryRunStep s d (thresholdInputs s d .cavitation
      (thresholdInputs s d .overpressure (thresholdInputs s d .overheat (w.refreshed s d)))))) := rfl

section

variable (s : State) {d e : Drive} {j : Watch} (w : PpuWork)

theorem PpuWork.refreshed_watch_self :
    (w.refreshed s d).watch d j = { w.watch d j with health := (s.reading (watchRole d j)).1 } := by
  simp only [PpuWork.watch, PpuWork.refreshed, PerDrive.get_set_self]
  cases j <;> rfl

theorem PpuWork.refreshed_watch_other (h : e ≠ d) : (w.refreshed s d).watch e j = w.watch e j := by
  simp only [PpuWork.watch, PpuWork.refreshed, PerDrive.get_set_other _ h]

theorem pumpInputs_watch_other (h : e ≠ d) : (pumpInputs s d w).watch e j = w.watch e j := by
  rw [pumpInputs_eq, overheatWarn_watch, dryRunPeak_watch_other (.inl h), dryRunStep_watch_other (.inl h),
    thresholdInputs_watch_other (.inl h), thresholdInputs_watch_other (.inl h),
    thresholdInputs_watch_other (.inl h), PpuWork.refreshed_watch_other _ _ h]

/-- Of a pump that does not run, the watches but OVERHEAT take their input health alone (R96, R99). -/
theorem pumpInputs_watch_idle (h : s.pumpRuns d = false) (hj : j ≠ .overheat) :
    (pumpInputs s d w).watch d j = { w.watch d j with health := (s.reading (watchRole d j)).1 } := by
  rw [pumpInputs_eq, overheatWarn_watch, dryRunPeak_idle h, dryRunStep_idle h,
    thresholdInputs_idle (k := .cavitation) h (by decide), thresholdInputs_idle (k := .overpressure) h (by decide),
    thresholdInputs_watch_other (k := .overheat) (.inr hj), PpuWork.refreshed_watch_self]

theorem ppuInputs_watch_idle (h : s.pumpRuns d = false) (hj : j ≠ .overheat) :
    (ppuInputs s w).watch d j = { w.watch d j with health := (s.reading (watchRole d j)).1 } := by
  rw [ppuInputs, tankReserve_watch]
  cases d with
  | main => rw [pumpInputs_watch_other _ _ (by decide), pumpInputs_watch_idle _ _ h hj]; rfl
  | aux => rw [pumpInputs_watch_idle _ _ h hj, pumpInputs_watch_other _ _ (by decide)]; rfl

/-- A gauge publication leaves every watch of a pump that does not run (R99, R104). -/
theorem ppuLevels_watch_idle (h : s.pumpRuns d = false) : (ppuLevels s w).watch d j = w.watch d j := by
  rw [ppuLevels, tankReserve_watch]
  cases d with
  | main => rw [dryRunStep_watch_other (.inl (by decide)), dryRunStep_idle h]
  | aux => rw [dryRunStep_idle h, dryRunStep_watch_other (.inl (by decide))]

end

/-- Settles O39, by the two timers and the two publications. -/
theorem dryRunExpiriesComplete : Obligations.DryRunExpiriesComplete := by
  intro d s due r
  refine ⟨fun hdue => ?dry, fun hdue hrecovering => ?clear, fun hidle e k he hk => ?idle⟩
  case dry =>
    refine ⟨_, exec_dryTimerExpiry hdue, State.ppuCommit_acts s _ _, ?_⟩
    by_cases hcut : CutDue s d { r with dry := .stopped, dryElapsed := true }
    · rw [dryExpired_due (w := { ppu := s.ppu }) hcut]
      refine ⟨rfl, ?_⟩
      intro cut
      obtain ⟨hstate : r.state = .tripped, -, hposted : r.cutPosted = false, v,
        hv : s.knownValue (.intakePressure d) = some v, hv0⟩ := hcut
      have hpost : cut = true := by simp [cut, hstate, hposted, hv, hv0]
      rw [hpost, Bool.or_true]
      exact ⟨rfl, fun _ => cuts_mem_ppuOut rfl _⟩
    · rw [dryExpired_not_due (w := { ppu := s.ppu }) hcut]
      refine ⟨rfl, ?_⟩
      intro cut
      have hkeep : cut = false := by
        refine eq_false_of_ne_true fun h => hcut ?_
        cases hv : s.knownValue (.intakePressure d) with
        | none => simp [cut, hv] at h
        | some v =>
          obtain ⟨⟨hstate, hposted⟩, hv0⟩ : (r.state = .tripped ∧ r.cutPosted = false) ∧ v ≤ 0 := by
            simpa [cut, hv] using h
          exact ⟨hstate, rfl, hposted, v, hv, hv0⟩
      rw [hkeep, Bool.or_false]
      exact ⟨rfl, nofun⟩
  case clear =>
    have hacting : r.state.acting = true := congrArg WatchState.acting hrecovering
    obtain ⟨hwatches, halarms, hcut, -⟩ :=
      State.ppuCommit_clearWatch (k := .dryRun) hacting (max s.now due) .cleared
    refine ⟨_, exec_dryRunClearExpiry hdue, State.ppuCommit_acts s _ _, ?_⟩
    rw [dryClearExpired_recovering (w := { ppu := s.ppu }) hrecovering]
    exact ⟨hwatches, halarms, hcut⟩
  case idle =>
    have hruns : s.pumpRuns d = false :=
      Bool.and_eq_false_iff.2 (hidle.imp_right decide_eq_false)
    intro now
    obtain rfl | rfl := he
    · have hnow : now = _ := ppuInputs_watch_idle s { ppu := s.ppu } hruns hk
      rw [hnow]
      rfl
    · have hnow : now = _ := ppuLevels_watch_idle s { ppu := s.ppu } hruns
      rw [hnow]
      rfl

end Sys2Proof.Machine

end


section
/-! PROOFS. Adoption stands: once the drives have adopted their states, no event of the unit takes that back. -/

namespace Sys2Proof.Machine

/-! ## What each part of a DEU event makes of the adoption

Adoption alone sets the mark (R89); the records, the waiting list, the slot and the clutch are moved beside it. -/

section
variable (s : State) (d : Drive) (w : DeuWork)

@[simp] theorem DeuWork.setRec_adopted (r : DriveRec) : (w.setRec d r).deu.adopted = w.deu.adopted := rfl

@[simp] theorem join_adopted : (join s d w).deu.adopted = w.deu.adopted := by
  unfold join
  dsimp only
  split <;> rfl

@[simp] theorem leave_adopted : (leave d w).deu.adopted = w.deu.adopted := rfl

@[simp] theorem freeSlot_adopted : (freeSlot d w).deu.adopted = w.deu.adopted := by
  unfold freeSlot
  split <;> rfl

@[simp] theorem clutch_adopted (on : Bool) : (clutch on w).deu.adopted = w.deu.adopted := rfl

@[simp] theorem dropRollDemands_adopted : (dropRollDemands d w).deu.adopted = w.deu.adopted := by
  simp only [dropRollDemands, DeuWork.setRec_adopted]
  split <;> split <;> rfl

@[simp] theorem postRelease_adopted : (postRelease d w).deu.adopted = w.deu.adopted := by
  unfold postRelease
  dsimp only
  split <;> rfl

@[simp] theorem dropReleaseDemands_adopted : (dropReleaseDemands d w).deu.adopted = w.deu.adopted := by
  simp only [dropReleaseDemands, DeuWork.setRec_adopted]
  split <;> rfl

@[simp] theorem enterFaulted_adopted (k : FaultKind) (restore : Bool) :
    (enterFaulted s d k restore w).deu.adopted = w.deu.adopted := by
  simp only [enterFaulted]
  split <;> split <;> simp

@[simp] theorem enterIdle_adopted (c : DriveCause) : (enterIdle d c w).deu.adopted = w.deu.adopted := rfl

@[simp] theorem enterReleased_adopted : (enterReleased d w).deu.adopted = w.deu.adopted := by
  simp [enterReleased]

@[simp] theorem confirmShift_adopted : (confirmShift s d w).deu.adopted = w.deu.adopted := by
  simp [confirmShift]

@[simp] theorem enterShifting_adopted : (enterShifting s d w).deu.adopted = w.deu.adopted := rfl

@[simp] theorem enterReleasing_adopted : (enterReleasing s d w).deu.adopted = w.deu.adopted := by
  simp [enterReleasing]

@[simp] theorem beginRelease_adopted : (beginRelease s d w).deu.adopted = w.deu.adopted := by
  simp [beginRelease]

@[simp] theorem foundIdle_adopted : (foundIdle s d w).deu.adopted = w.deu.adopted := by
  unfold foundIdle
  dsimp only
  split <;> rfl

@[simp] theorem offer_adopted (ds : List Drive) : (offer s ds w).deu.adopted = w.deu.adopted := by
  induction ds generalizing w with
  | nil => rfl
  | cons d rest ih =>
    unfold offer
    split
    · rfl
    split
    · exact ih w
    split
    · split
      · exact ih _
      · rfl
    · simp

theorem adopt_adopted : (adopt s w).deu.adopted = (w.deu.adopted || adoptionDue s) := by
  unfold adopt
  cases adoptionDue s <;> simp

end

/-! ## What each body makes of it -/

section
variable (s : State) (d : Drive) (w : DeuWork)

@[simp] theorem endRestore_adopted : (endRestore w).deu.adopted = w.deu.adopted := by simp [endRestore]

@[simp] theorem motionMonitor_adopted : (motionMonitor s w).deu.adopted = w.deu.adopted := by
  unfold motionMonitor
  dsimp only
  split
  · simp
  · split <;> rfl

@[simp] theorem moveRolling_adopted : (moveRolling s w).deu.adopted = w.deu.adopted := by
  unfold moveRolling
  dsimp only
  split <;> simp

@[simp] theorem overspeedMonitor_adopted : (overspeedMonitor s w).deu.adopted = w.deu.adopted := by
  unfold overspeedMonitor
  dsimp only
  split
  · rfl
  split
  · split <;> rfl
  · split <;> rfl

@[simp] theorem selectMonitor_adopted : (selectMonitor s w).deu.adopted = w.deu.adopted := by
  unfold selectMonitor
  dsimp only
  split <;> split <;> rfl

@[simp] theorem commonMonitors_adopted : (commonMonitors s d w).deu.adopted = w.deu.adopted := rfl

@[simp] theorem monitors_adopted : (monitors s d w).deu.adopted = w.deu.adopted := by
  cases d with
  | main =>
    simp only [monitors]
    split <;> simp
  | aux =>
    simp only [monitors, commonMonitors_adopted]
    split <;> simp

@[simp] theorem driveInputs_adopted : (driveInputs s d w).deu.adopted = w.deu.adopted := by
  unfold driveInputs
  dsimp only
  split
  case h_1 | h_2 | h_5 => split <;> simp
  case h_3 | h_4 => exact monitors_adopted s d w
  case h_6 => rfl

theorem bodyInputs_adopted : (bodyInputs s w).deu.adopted = w.deu.adopted := by simp [bodyInputs]

theorem bodySupply_adopted : (bodySupply s w).deu.adopted = w.deu.adopted := rfl

theorem bodyPermissiveExpired_adopted : (bodyPermissiveExpired d w).deu.adopted = w.deu.adopted := by
  unfold bodyPermissiveExpired
  split <;> rfl

theorem bodyConfirmExpired_adopted : (bodyConfirmExpired s d w).deu.adopted = w.deu.adopted := by
  unfold bodyConfirmExpired
  dsimp only
  split <;> simp [startOffTime]

theorem bodyRetryOffExpired_adopted : (bodyRetryOffExpired s d w).deu.adopted = w.deu.adopted := rfl

theorem bodyIdleExpired_adopted : (bodyIdleExpired s d w).deu.adopted = w.deu.adopted := by
  unfold bodyIdleExpired
  split <;> simp

theorem bodyMonitorFault_adopted (k : FaultKind) : (bodyMonitorFault s d k w).deu.adopted = w.deu.adopted := by
  unfold bodyMonitorFault
  split <;> simp

theorem bodyOverspeedExpired_adopted : (bodyOverspeedExpired w).deu.adopted = w.deu.adopted := by
  unfold bodyOverspeedExpired
  dsimp only
  split <;> rfl

theorem bodyEngage_adopted : (bodyEngage s d w).deu.adopted = w.deu.adopted := by
  unfold bodyEngage
  split
  case h_1 | h_2 | h_3 => rfl
  case h_4 =>
    split
    · rfl
    split
    · rfl
    split
    · rfl
    · simp

theorem bodyRelease_adopted : (bodyRelease s d w).deu.adopted = w.deu.adopted := by
  unfold bodyRelease
  dsimp only
  split
  · rfl
  split
  case h_1 | h_2 | h_4 => rfl
  case h_3 => simp [releaseHolding]
  case h_5 | h_6 => split <;> simp
  case h_7 =>
    split
    · rfl
    split
    · simp [releaseHolding]
    split
    · simp
    · split <;> simp

end

/-! ## The unit's event -/

/-- An event whose body leaves adoption alone adopts when adoption is due, and never takes adoption back (R63, R89). -/
theorem deuRun_adopted (s : State) {body : DeuWork → DeuWork}
    (h : ∀ w, (body w).deu.adopted = w.deu.adopted) :
    (deuRun s body).deu.adopted = (s.deu.adopted || adoptionDue s) := by
  simp [deuRun, deuOutputs, h, adopt_adopted]

theorem State.deuTakes_adopted {s : State} (hs : s.deu.adopted = true) {body : DeuWork → DeuWork}
    (h : ∀ w, (body w).deu.adopted = w.deu.adopted) : (s.deuTakes body).deu.adopted = true := by
  simp [State.deuTakes, deuRun_adopted s h, hs]

theorem State.deuEvent_adopted {s : State} (hs : s.deu.adopted = true) (e : Event) :
    (s.deuEvent e).deu.adopted = true := by
  cases e with
  | inputs => exact State.deuTakes_adopted hs (bodyInputs_adopted s)
  | supply _ _ => exact State.deuTakes_adopted hs (bodySupply_adopted s)
  | lockouts _ | conf _ _ => exact State.deuTakes_adopted hs fun _ => rfl
  | _ => exact hs

end Sys2Proof.Machine

end


section
/-! PROOFS. The lockout table with its records: what each operation of the Lockout Unit makes of them. -/

namespace Sys2Proof.Machine

/-! ## The slots by number

A table of 16 slots with 16 records is the list of the numbers below 16, each with its entry and its record. -/

/-- The unit holds 16 entries and 16 records (R117, R120). -/
def Lku.Full (l : Lku) : Prop := l.table.length = 16 ∧ l.records.length = 16

section
variable {l : Lku} (h : l.Full)
include h

theorem Lku.numbered_eq : (List.range 16).zip (l.table.zip l.records) =
    (List.range 16).map fun n => (n, l.entry n, l.entryRec n) := by
  obtain ⟨ht, hr⟩ := h
  refine List.ext_getElem (by simp [ht, hr]) fun n hn _ => ?_
  have hn : n < 16 := by simpa [ht, hr] using hn
  simp [Lku.entry, Lku.entryRec, ht, hr, hn]

theorem Lku.mapRecords_records (f : Nat → LockoutEntry → LockoutRec → LockoutRec) :
    (l.mapRecords f).records = (List.range 16).map fun n => f n (l.entry n) (l.entryRec n) := by
  simp [Lku.mapRecords, Lku.numbered_eq h, List.map_map, Function.comp_def]

/-- Records rebuilt are 16 again, under the same table. -/
theorem Lku.mapRecords_full (f : Nat → LockoutEntry → LockoutRec → LockoutRec) : (l.mapRecords f).Full :=
  ⟨h.1, by simp [Lku.mapRecords_records h]⟩

/-- Records rebuilt, slot by slot. -/
theorem Lku.mapRecords_entryRec (f : Nat → LockoutEntry → LockoutRec → LockoutRec) {n : Nat} (hn : n < 16) :
    (l.mapRecords f).entryRec n = f n (l.entry n) (l.entryRec n) := by
  simp [Lku.entryRec, Lku.mapRecords_records h, hn]

end

section
variable (l : Lku) (f : Nat → LockoutEntry → LockoutRec → LockoutRec)

@[simp] theorem Lku.mapRecords_table : (l.mapRecords f).table = l.table := rfl
@[simp] theorem Lku.mapRecords_overrides : (l.mapRecords f).overrides = l.overrides := rfl
@[simp] theorem Lku.mapRecords_entry (n : Nat) : (l.mapRecords f).entry n = l.entry n := rfl
@[simp] theorem Lku.mapRecords_overridden (n : Nat) : (l.mapRecords f).overridden n = l.overridden n := rfl

end

/-! ## Which entries act (R115, R121) -/

/-- An entry with the target is effective. -/
abbrev Lku.Acts (l : Lku) (t : Target) (n : Nat) : Prop :=
  (l.entry n).inUse = true ∧ (l.entry n).target = t ∧ (l.entryRec n).effective = true

/-- The effect of a target is a search through the slot numbers. -/
theorem Lku.effect_eq {l : Lku} (h : l.Full) (t : Target) :
    l.effect t = (List.range 16).find? fun n => decide (l.Acts t n) := by
  rw [Lku.effect, Lku.numbered_eq h, List.findSome?_map, List.find?_eq_findSome?_guard]
  congr 1
  funext n
  simp [Option.guard, Lku.Acts, and_assoc]

theorem Lku.effect_eq_some {l : Lku} (h : l.Full) {t : Target} {n : Nat} :
    l.effect t = some n ↔ n < 16 ∧ l.Acts t n ∧ ∀ k < n, ¬ l.Acts t k := by
  rw [Lku.effect_eq h, List.find?_range_eq_some]
  simp only [decide_eq_true_eq, List.mem_range, Bool.not_eq_true', decide_eq_false_iff_not]
  exact and_left_comm

theorem Lku.effect_eq_none {l : Lku} (h : l.Full) {t : Target} :
    l.effect t = none ↔ ∀ k < 16, ¬ l.Acts t k := by
  rw [Lku.effect_eq h, List.find?_range_eq_none]
  simp only [Bool.not_eq_true', decide_eq_false_iff_not]

theorem mem_inhibitEntries {s : State} {l : Lku} (h : l.Full) {n : Nat} :
    n ∈ inhibitEntries s l ↔ n < 16 ∧ (l.entry n).inUse = true ∧ (l.entryRec n).effective = true ∧
      ((l.entry n).target = .roadGear ∨
        (l.entry n).target = .auxRoll ∧ s.deu.drives.aux.state = .engaged) := by
  have aux : s.driveState .aux = s.deu.drives.aux.state := rfl
  rw [← aux]
  simp [inhibitEntries, Lku.numbered_eq h, and_assoc]

/-! ## The end of an event (R115, R121) -/

theorem Lku.builtInActive_iff (l : Lku) :
    l.builtInActive = true ↔ l.mainGear = true ∨ l.auxGear = true ∨ l.startHold = true := by
  simp [Lku.builtInActive, or_assoc]

/-- An entry's record as an event's end forms it: its effect afresh from the rest (R121). -/
def Lku.settledRec (l : Lku) (n : Nat) (e : LockoutEntry) (r : LockoutRec) : LockoutRec :=
  { r with effective := e.inUse && formEffective e.mode r.active (l.overridden n) r.confirmed }

section
variable (s : State) (l : Lku)

@[simp] theorem lkuSettled_mainGear : (lkuSettled s l).mainGear = l.mainGear := rfl
@[simp] theorem lkuSettled_auxGear : (lkuSettled s l).auxGear = l.auxGear := rfl
@[simp] theorem lkuSettled_startHold : (lkuSettled s l).startHold = l.startHold := rfl
@[simp] theorem lkuSettled_builtInActive : (lkuSettled s l).builtInActive = l.builtInActive := rfl
@[simp] theorem lkuSettled_table : (lkuSettled s l).table = l.table := rfl
@[simp] theorem lkuSettled_overrides : (lkuSettled s l).overrides = l.overrides := rfl
@[simp] theorem lkuSettled_do7 : (lkuSettled s l).do7 = l.do7 := rfl
@[simp] theorem lkuSettled_entry (n : Nat) : (lkuSettled s l).entry n = l.entry n := rfl

/-- DO3 stands asserted while a built-in lockout is active, whatever the table holds (R115). -/
theorem lkuSettled_do3_of_builtIn (h : l.builtInActive = true) : (lkuSettled s l).do3 = true := by
  have : (lkuSettled s l).do3 = (l.builtInActive || !(inhibitEntries s _).isEmpty) := rfl
  rw [this, h, Bool.true_or]

variable {l}

theorem lkuSettled_full (h : l.Full) : (lkuSettled s l).Full :=
  Lku.mapRecords_full h l.settledRec

/-- Every entry takes its effect from its mode, ACTIVE, its override and its confirmation (R121). -/
theorem lkuSettled_entryRec (h : l.Full) {n : Nat} (hn : n < 16) :
    (lkuSettled s l).entryRec n = { l.entryRec n with
      effective := (l.entry n).inUse && formEffective (l.entry n).mode (l.entryRec n).active (l.overridden n)
        (l.entryRec n).confirmed } :=
  Lku.mapRecords_entryRec h l.settledRec hn

theorem lkuSettled_do3 (h : l.Full) : (lkuSettled s l).do3 = true ↔
    l.builtInActive = true ∨ ∃ n < 16, (l.entry n).inUse = true ∧
      ((lkuSettled s l).entryRec n).effective = true ∧
      ((l.entry n).target = .roadGear ∨
        (l.entry n).target = .auxRoll ∧ s.deu.drives.aux.state = .engaged) := by
  have do3 : (lkuSettled s l).do3 = (l.builtInActive || !(inhibitEntries s (lkuSettled s l)).isEmpty) := rfl
  simp only [do3, Bool.or_eq_true, Bool.not_eq_true', List.isEmpty_eq_false_iff_exists_mem,
    mem_inhibitEntries (lkuSettled_full s h), lkuSettled_entry]

end

/-! ## Overrides -/

theorem Lku.overridden_iff (l : Lku) (n : Nat) : l.overridden n = true ↔ n ∈ l.overrides.map (·.slot) := by
  simp [Lku.overridden]

/-- An override whose timer runs is in the list. -/
theorem Lku.overridden_of_running {l : Lku} {n : Nat} {due : Micros} (h : l.overrideTimer n = .running due) :
    l.overridden n = true := by
  cases hf : l.overrides.find? fun o => decide (o.slot = n) with
  | none => simp [Lku.overrideTimer, hf] at h
  | some o =>
    rw [Lku.overridden_iff, List.mem_map]
    exact ⟨o, List.mem_of_find?_eq_some hf, by simpa using List.find?_some hf⟩

end Sys2Proof.Machine

end


section
/-! PROOFS. The Lockout Unit's events: each keeps the shape of the table, of the override list and of START_HOLD. -/

namespace Sys2Proof.Machine

/-! ## What an event keeps in the course of its work -/

/-- 16 entries with 16 records, at most 4 overrides of distinct slots, and START_HOLD active until adoption is complete
(R114, R117, R120, R126). -/
structure Lku.Sound (adopted : Bool) (l : Lku) : Prop where
  full : l.Full
  capacity : l.overrides.length ≤ overrideCapacity
  distinct : (l.overrides.map (·.slot)).Nodup
  held : adopted = false → l.startHold = true

theorem Lku.reset_sound : Lku.reset.Sound false :=
  ⟨⟨rfl, rfl⟩, by decide, List.nodup_nil, fun _ => rfl⟩

/-- A table of 16 entries is in force, whether or not a profile is in use (R117). -/
theorem State.lockoutTable_length {s : State} (h : ∀ p, s.pfu.inUse = some p → p.lockouts.length = 16) :
    s.lockoutTable.length = 16 := by
  unfold State.lockoutTable
  split
  case h_1 p hp => exact h p hp
  case h_2 => rfl

section
variable {adopted : Bool} {l : Lku} (h : l.Sound adopted)
include h

theorem Lku.Sound.mapRecords (f : Nat → LockoutEntry → LockoutRec → LockoutRec) :
    (l.mapRecords f).Sound adopted :=
  ⟨Lku.mapRecords_full h.full f, h.capacity, h.distinct, h.held⟩

/-- A shorter list of overrides in the same order. -/
theorem Lku.Sound.fewer {os : List Override} (hos : os.Sublist l.overrides) :
    ({ l with overrides := os } : Lku).Sound adopted :=
  ⟨h.full, hos.length_le.trans h.capacity, h.distinct.sublist (hos.map _), h.held⟩

/-- A new table with its records. -/
theorem Lku.Sound.withTable {table : List LockoutEntry} (ht : table.length = 16) :
    ({ l with table := table, records := noRecords } : Lku).Sound adopted :=
  ⟨⟨ht, rfl⟩, h.capacity, h.distinct, h.held⟩

theorem Lku.Sound.settled (s : State) : (lkuSettled s l).Sound adopted :=
  ⟨lkuSettled_full s h.full, h.capacity, h.distinct, h.held⟩

end

/-! ## The operations of an event -/

section
variable {adopted : Bool} {w : LkuWork} (h : w.lku.Sound adopted) (s : State)
include h

theorem evaluateFrom_sound (b : Block) : (evaluateFrom s b w).lku.Sound adopted := by
  dsimp only [evaluateFrom, Lku.evaluate]
  exact h.mapRecords _

theorem builtIns_sound : (builtIns s w).lku.Sound adopted := ⟨h.full, h.capacity, h.distinct, h.held⟩

theorem lamp_sound : (lamp s w).lku.Sound adopted := ⟨h.full, h.capacity, h.distinct, h.held⟩

theorem endOverrides_sound (reason : EndReason) (pick : Override → Bool) :
    (endOverrides reason pick w).lku.Sound adopted := h.fewer List.filter_sublist

theorem evaluateSlot_sound (n : Nat) : (evaluateSlot s n w).lku.Sound adopted := by
  dsimp only [evaluateSlot]
  exact h.mapRecords _

theorem evaluateSlots_sound (ns : List Nat) :
    (ns.foldl (fun w n => evaluateSlot s n w) w).lku.Sound adopted := by
  induction ns generalizing w with
  | nil => exact h
  | cons n rest ih => exact ih (evaluateSlot_sound h s n)

theorem endOverride_sound (reason : EndReason) (n : Nat) : (endOverride s reason n w).lku.Sound adopted :=
  endOverrides_sound (evaluateSlot_sound h s n) _ _

/-- An override granted joins the list when it is not full and has none of the slot, and otherwise restarts in its
place (R126). -/
theorem grantOverride_sound {n : Nat} (hroom : w.lku.overridden n = true ∨ w.lku.overrides.length < overrideCapacity)
    (seconds : Nat) : (grantOverride s n seconds w).lku.Sound adopted := by
  unfold grantOverride
  dsimp only
  by_cases hn : w.lku.overridden n = true
  · have slots (t : Timer) : (w.lku.overrides.map fun o => if o.slot = n then { o with timer := t } else o).map
        (·.slot) = w.lku.overrides.map (·.slot) := by
      rw [List.map_map]
      refine List.map_congr_left fun o _ => ?_
      dsimp only [Function.comp]
      split <;> rfl
    rw [if_pos hn]
    exact ⟨h.full, by simpa using h.capacity, (slots _).symm ▸ h.distinct, h.held⟩
  · rw [if_neg hn]
    refine ⟨h.full, ?_, ?_, h.held⟩
    · simpa using hroom.resolve_left hn
    · rw [Lku.overridden_iff] at hn
      simpa [List.nodup_append, h.distinct] using hn

end

/-! ## The bodies -/

/-- The bodies of the Lockout Unit's events in a state: its neighbours' publications, the expiry of an override and the
three requests (R120, R124 to R128, R132). -/
inductive LkuBody (s : State) : (LkuWork → LkuWork) → Prop where
  | inputs : LkuBody s (lkuInputs s)
  | drives : LkuBody s (lkuDrives s)
  | watches : LkuBody s (lkuWatches s)
  | source (b : Block) : LkuBody s (evaluateFrom s b)
  | started (d : Drive) : LkuBody s (lkuStarted d)
  | conf (before after : Conf) : LkuBody s (lkuConf s before after)
  | expired (n : Nat) : LkuBody s (lkuExpired s n)
  | confirm (n : Nat) : LkuBody s (bodyConfirm s n)
  | override (n seconds : Nat) : LkuBody s (bodyOverride s n seconds)
  | cancel (n : Nat) : LkuBody s (bodyCancel s n)

theorem State.lkuEvent_body (s : State) (e : Event) :
    s.lkuEvent e = s ∨ ∃ body, LkuBody s body ∧ s.lkuEvent e = s.lkuTakes body := by
  cases e with
  | inputs => exact .inr ⟨_, .inputs, rfl⟩
  | drives => exact .inr ⟨_, .drives, rfl⟩
  | watches => exact .inr ⟨_, .watches, rfl⟩
  | gauges | levels _ _ _ | authority | supply _ _ => exact .inr ⟨_, .source _, rfl⟩
  | started d => exact .inr ⟨_, .started d, rfl⟩
  | conf before after => exact .inr ⟨_, .conf before after, rfl⟩
  | _ => exact .inl rfl

/-- What a change of the configuration state makes of the unit, MAIN_GEAR and AUX_GEAR brought up to date first: nothing
more at an apply's start; else every override ends, and the new table comes into use or none does (R114, R132). -/
theorem lkuConf_cases (s : State) (before after : Conf) (w : LkuWork) :
    let ended := endOverrides .profile (fun _ => true) (builtIns s w)
    (lkuConf s before after w = builtIns s w) ∨
    (lkuConf s before after w = newTable s ended) ∨
    (lkuConf s before after w = { ended with lku := { ended.lku with table := noTable, records := noRecords } }) := by
  intro ended
  cases after with
  | applying => exact .inl rfl
  | configured => exact .inr (.inl rfl)
  | loading | unconfigured => exact .inr (.inr rfl)

/-! ## CONFIRM LOCKOUT and OVERRIDE LOCKOUT (R124, R126) -/

/-- The reply outside a configured part, to a request that needs the table; none where it is configured (R124, R126). -/
def unconfiguredReply (c : Conf) : Option (List Byte) :=
  if c = .loading ∨ c = .unconfigured then some [6#8] else if c = .applying then some [8#8] else none

/-- What R124 has a CONFIRM LOCKOUT answered with, its tests in order. -/
def confirmReply (s : State) (l : Lku) (n : Nat) : List Byte :=
  if 15 < n then [5#8]
  else (unconfiguredReply s.pfu.conf).getD <|
    if (l.entry n).inUse = false ∨ (l.entry n).mode ≠ .confirm then [5#8]
    else if (l.entryRec n).active = false then [2#8, 4#8] else [0#8]

/-- The records with entry `n` confirmed (R124). -/
def Lku.confirm (l : Lku) (n : Nat) : Lku :=
  l.mapRecords fun k _ r => if k = n then { r with confirmed := true } else r

/-- CONFIRM LOCKOUT only answers, and that OK where the entry is confirmed already, or confirms the entry (R124). -/
theorem bodyConfirm_cases (s : State) (n : Nat) (w : LkuWork) :
    (∃ st, bodyConfirm s n w = { w with status := st } ∧ st.bytes = confirmReply s w.lku n ∧
      (confirmReply s w.lku n = [0#8] → (w.lku.entryRec n).confirmed = true)) ∨
    (confirmReply s w.lku n = [0#8] ∧ bodyConfirm s n w =
      { w with lku := w.lku.confirm n, marks := w.marks ++ [(n, .confirmed)], status := .ok }) := by
  unfold bodyConfirm confirmReply
  dsimp only
  by_cases hn : 15 < n
  · exact .inl ⟨.badValue, by simp [hn, Status.bytes]⟩
  cases hc : s.pfu.conf with
  | loading | unconfigured => exact .inl ⟨.notConfigured, by simp [hn, unconfiguredReply, Status.bytes]⟩
  | applying => exact .inl ⟨.busy, by simp [hn, unconfiguredReply, Status.bytes]⟩
  | configured =>
    simp only [hn, unconfiguredReply, reduceCtorEq, or_self, ite_false, Option.getD_none, Bool.not_eq_true']
    split
    · exact .inl ⟨.badValue, by simp [Status.bytes]⟩
    split
    · exact .inl ⟨.refused .notActive, by simp [Status.bytes, Reason.bytes]⟩
    split
    case isTrue hconfirmed => exact .inl ⟨.ok, by simp [hconfirmed, Status.bytes]⟩
    · exact .inr ⟨rfl, rfl⟩

/-- What R126 has an OVERRIDE LOCKOUT answered with, its tests in order. -/
def overrideReply (s : State) (l : Lku) (n seconds : Nat) : List Byte :=
  if 15 < n ∨ seconds < 1 ∨ 600 < seconds then [5#8]
  else if s.level .serviceKey = false then [7#8]
  else (unconfiguredReply s.pfu.conf).getD <|
    if (l.entry n).inUse = false then [5#8]
    else if (l.entry n).overridable = false then [2#8, 5#8]
    else if l.overridden n then [0#8]
    else if overrideCapacity ≤ l.overrides.length then [2#8, 6#8] else [0#8]

/-- OVERRIDE LOCKOUT refuses and leaves the unit as it is, or grants an override where the list has one of the slot or
room for it (R126). -/
theorem bodyOverride_cases (s : State) (n seconds : Nat) (w : LkuWork) :
    (∃ st, bodyOverride s n seconds w = { w with status := st } ∧ st.bytes = overrideReply s w.lku n seconds ∧
      overrideReply s w.lku n seconds ≠ [0#8]) ∨
    (overrideReply s w.lku n seconds = [0#8] ∧ n ≤ 15 ∧
      (w.lku.overridden n = true ∨ w.lku.overrides.length < overrideCapacity) ∧
      bodyOverride s n seconds w = grantOverride s n seconds w) := by
  unfold bodyOverride overrideReply
  dsimp only
  by_cases hn : 15 < n ∨ seconds < 1 ∨ 600 < seconds
  · simp only [if_pos hn]
    exact .inl ⟨.badValue, rfl, rfl, by simp⟩
  have hslot : n ≤ 15 := by omega
  simp only [if_neg hn]
  cases hkey : s.level .serviceKey with
  | false => exact .inl ⟨.keyNeeded, by simp [Status.bytes]⟩
  | true =>
    cases hc : s.pfu.conf with
    | loading | unconfigured => exact .inl ⟨.notConfigured, by simp [unconfiguredReply, Status.bytes]⟩
    | applying => exact .inl ⟨.busy, by simp [unconfiguredReply, Status.bytes]⟩
    | configured =>
      simp only [unconfiguredReply, reduceCtorEq, or_self, ite_false, Option.getD_none, Bool.not_eq_true',
        Bool.not_true, Bool.false_eq_true]
      split
      · exact .inl ⟨.badValue, by simp [Status.bytes]⟩
      split
      · exact .inl ⟨.refused .notOverridable, by simp [Status.bytes, Reason.bytes]⟩
      split
      case isTrue hover => exact .inr ⟨rfl, hslot, .inl hover, rfl⟩
      split
      · exact .inl ⟨.refused .overrideFull, by simp [Status.bytes, Reason.bytes]⟩
      case isFalse hroom => exact .inr ⟨rfl, hslot, .inr (Nat.lt_of_not_le hroom), rfl⟩

/-! ## Every event -/

/-- Every event keeps the shape of the unit, where the profile in use has 16 slots. -/
theorem LkuBody.sound {s : State} {body : LkuWork → LkuWork} (hbody : LkuBody s body)
    (htable : ∀ p, s.pfu.inUse = some p → p.lockouts.length = 16) {w : LkuWork}
    (h : w.lku.Sound s.deu.adopted) : (body w).lku.Sound s.deu.adopted := by
  cases hbody with
  | inputs =>
    have refreshed := lamp_sound (builtIns_sound (evaluateFrom_sound h s .isu) s) s
    unfold lkuInputs
    dsimp only
    split
    · exact endOverrides_sound (evaluateSlots_sound refreshed s _) _ _
    · exact refreshed
  | drives =>
    have refreshed := builtIns_sound (evaluateFrom_sound h s .deu) s
    refine lamp_sound (w := endStartHold s _) ?_ s
    refine ⟨refreshed.full, refreshed.capacity, refreshed.distinct, fun ha => ?_⟩
    have held := refreshed.held ha
    simp [endStartHold, ha, held]
  | watches => exact lamp_sound (evaluateFrom_sound h s .ppu) s
  | source b => exact evaluateFrom_sound h s b
  | started d =>
    dsimp only [lkuStarted]
    exact h.mapRecords _
  | conf before after =>
    have ended := endOverrides_sound (builtIns_sound h s) .profile fun _ => true
    obtain hc | hc | hc := lkuConf_cases s before after w <;> rw [hc]
    · exact builtIns_sound h s
    · dsimp only [newTable, Lku.evaluate]
      exact (ended.withTable (State.lockoutTable_length htable)).mapRecords _
    · exact ended.withTable rfl
  | expired n => exact endOverride_sound h s _ n
  | confirm n =>
    obtain ⟨_, hc, -⟩ | ⟨-, hc⟩ := bodyConfirm_cases s n w <;> rw [hc]
    · exact h
    · dsimp only [Lku.confirm]
      exact h.mapRecords _
  | override n seconds =>
    obtain ⟨_, hc, -⟩ | ⟨-, -, hroom, hc⟩ := bodyOverride_cases s n seconds w <;> rw [hc]
    · exact h
    · exact grantOverride_sound h s hroom seconds
  | cancel n =>
    unfold bodyCancel
    split
    · exact h
    split
    · exact endOverride_sound h s .cancelled n
    · exact h

end Sys2Proof.Machine

end


section
/-! PROOFS. The Profile Unit's events: what each makes of the configuration state, the profile in use and an apply. -/

namespace Sys2Proof.Machine

open Sys2Proof.Safety

/-! ## Validation (R178) -/

/-- The field checks pass or find a section and an offset; they find nothing else. -/
theorem fieldFinding_cases (m : Memory) :
    fieldFinding m = none ∨ ∃ n offset, fieldFinding m = some (.invalid n offset) := by
  cases hf : fieldFinding m with
  | none => exact .inl rfl
  | some f =>
    obtain ⟨n, -, hn⟩ := List.exists_of_findSome?_eq_some hf
    obtain ⟨c, -, rfl⟩ := Option.map_eq_some_iff.1 hn
    exact .inr ⟨n, c.offset, rfl⟩

theorem fieldFinding_of_validate {m : Memory} (h : validate m = none) : fieldFinding m = none := by
  unfold validate at h
  split at h
  · cases h
  · exact h

/-! ## What an event can make of the unit -/

/-- The task is the write of a page of an apply. -/
def PfuTask.applies : PfuTask → Bool
  | .apply _ _ => true
  | _ => false

/-- What an event of the Profile Unit can make of the configuration state, the profile in use, the edit image and the
task (R180 to R184). -/
inductive PfuMove (p q : Pfu) : Prop where
  /-- Nothing changes but the task, and no apply begins; under an apply the edit image stands. -/
  | still (conf : q.conf = p.conf) (inUse : q.inUse = p.inUse)
      (task : q.task.applies = true → p.task.applies = true ∧ q.edit = p.edit)
  /-- The edit image changes outside LOADING and APPLYING. -/
  | edited (idle : p.conf.busy = false) (conf : q.conf = p.conf) (inUse : q.inUse = p.inUse) (task : q.task = p.task)
  /-- An apply begins, of an edit image that passes the field checks. -/
  | begins (conf : q.conf = .applying) (inUse : q.inUse = p.inUse) (edit : fieldFinding q.edit = none)
  /-- A load completes with a valid image. -/
  | loaded (m : Memory) (valid : fieldFinding m = none) (conf : q.conf = .configured)
      (inUse : q.inUse = some (profileOf m)) (task : q.task.applies = false)
  /-- An apply completes with the edit image. -/
  | applied (was : p.task.applies = true) (conf : q.conf = .configured) (inUse : q.inUse = some (profileOf p.edit))
      (task : q.task.applies = false)
  /-- The profile goes out of use. -/
  | left (conf : q.conf = .loading ∨ q.conf = .unconfigured) (inUse : q.inUse = none) (task : q.task.applies = false)

theorem PfuMove.refl (p : Pfu) : PfuMove p p := .still rfl rfl fun h => ⟨h, rfl⟩

/-- Outside an apply the task and the edit image may change. -/
theorem PfuMove.of_task {p q : Pfu} (conf : q.conf = p.conf) (inUse : q.inUse = p.inUse)
    (task : q.task.applies = false) : PfuMove p q :=
  .still conf inUse fun h => absurd h (by simp [task])

section
variable (s : State) (w : PfuWork)

/-- The load ends with the image of the profile area (R181). -/
theorem endLoad_move {p : Pfu} {finding : Option Finding} (h : finding = none → fieldFinding w.pfu.active = none) :
    PfuMove p (endLoad finding w).pfu := by
  cases finding with
  | none => exact .loaded _ (h rfl) rfl rfl rfl
  | some f => exact .left (.inr rfl) rfl rfl

theorem loadPage_move (page : Nat) (again : Bool) (outcome : PageEnd) :
    PfuMove w.pfu (loadPage page again outcome w).pfu := by
  cases outcome with
  | noAnswer =>
    cases again with
    | true => exact endLoad_move (finding := some .memory) _ nofun
    | false => exact .of_task rfl rfl rfl
  | done bytes =>
    unfold loadPage
    dsimp only
    split
    · exact .of_task rfl rfl rfl
    · exact endLoad_move _ fieldFinding_of_validate

theorem readPage_move (address count page : Nat) (again : Bool) (sofar : List Byte) (outcome : PageEnd) :
    PfuMove w.pfu (readPage address count page again sofar outcome w).pfu := by
  cases outcome with
  | noAnswer => cases again <;> exact .of_task rfl rfl rfl
  | done bytes =>
    unfold readPage
    dsimp only
    split <;> exact .of_task rfl rfl rfl

theorem pfuReadEnd_move (outcome : PageEnd) : PfuMove w.pfu (pfuReadEnd outcome w).pfu := by
  unfold pfuReadEnd
  split
  · exact loadPage_move w _ _ outcome
  · exact readPage_move w _ _ _ _ _ outcome
  · exact .refl _

theorem pfuWriteEnd_move (outcome : WriteEnd) : PfuMove w.pfu (pfuWriteEnd outcome w).pfu := by
  unfold pfuWriteEnd
  split
  case h_2 => exact .refl _
  case h_1 page again htask =>
    have was : w.pfu.task.applies = true := by rw [htask]; rfl
    split
    · split
      · exact .still rfl rfl fun _ => ⟨was, rfl⟩
      · exact .applied was rfl rfl rfl
    split
    · exact .left (.inl rfl) rfl rfl
    · exact .still rfl rfl fun _ => ⟨was, rfl⟩

theorem bodyProfileWrite_move (sect offset : Nat) (bytes : List Byte) :
    PfuMove w.pfu (bodyProfileWrite s sect offset bytes w).pfu := by
  unfold bodyProfileWrite
  split
  · exact .refl _
  split
  · exact .refl _
  case isFalse hbusy =>
    split
    · exact .refl _
    split
    · exact .refl _
    · exact .edited (by simpa using hbusy) rfl rfl rfl

theorem bodyProfileDiscard_move : PfuMove w.pfu (bodyProfileDiscard w).pfu := by
  unfold bodyProfileDiscard
  split
  · exact .refl _
  case isFalse hbusy => exact .edited (by simpa using hbusy) rfl rfl rfl

theorem bodyProfileRead_move (source sect offset count : Nat) :
    PfuMove w.pfu (bodyProfileRead source sect offset count w).pfu := by
  unfold bodyProfileRead
  split
  · exact .refl _
  split
  · exact .refl _
  split
  · exact .refl _
  split
  · exact .refl _
  split
  · exact .refl _
  · exact .of_task rfl rfl rfl

theorem bodyProfileApply_move : PfuMove w.pfu (bodyProfileApply s w).pfu := by
  unfold bodyProfileApply
  split
  · exact .refl _
  split
  · exact .refl _
  case isFalse hbusy =>
    split
    · exact .refl _
    generalize writeCrcs w.pfu.edit = edit
    obtain hf | ⟨n, offset, hf⟩ := fieldFinding_cases edit <;> simp only [hf]
    · exact .begins rfl rfl hf
    · exact .edited (by simpa using hbusy) rfl rfl rfl

theorem pfuInputs_move : PfuMove w.pfu (pfuInputs s w).pfu := by
  obtain h | ⟨_, _, h⟩ := pfuInputs_cases s w <;> rw [h] <;> exact .still rfl rfl fun ht => ⟨ht, rfl⟩

theorem pfuRecoveryExpired_move : PfuMove w.pfu (pfuRecoveryExpired s w).pfu := by
  unfold pfuRecoveryExpired
  split <;> exact .still rfl rfl fun ht => ⟨ht, rfl⟩

end

/-! ## The two laws of the Profile Unit -/

/-- A profile is in use exactly as the configuration state says, with 16 lockout slots (R117, R180, R183). -/
structure Pfu.InForce (p : Pfu) : Prop where
  unused : p.conf = .loading ∨ p.conf = .unconfigured → p.inUse = none
  used : p.conf = .configured → p.inUse.isSome = true
  slots : ∀ q, p.inUse = some q → q.lockouts.length = 16

theorem profileInForce_iff (s : State) : ProfileInForce s ↔ s.pfu.InForce := by
  refine ⟨fun ⟨hconf, hslots⟩ => ⟨fun h => ?_, fun h => ?_, hslots⟩, fun h => ⟨?_, h.slots⟩⟩
  · obtain h | h := h <;> simpa [h] using hconf
  · simpa [h] using hconf
  · split
    case h_1 hc => exact h.unused (.inl hc)
    case h_2 hc => exact h.unused (.inr hc)
    case h_3 hc => exact h.used hc
    case h_4 => trivial

theorem profileOf_lockouts_length (m : Memory) : (profileOf m).lockouts.length = 16 := by
  simp [profileOf]

/-- A profile in use is that of an image that passes the field checks, and an apply under way is one of APPLYING that
writes such an image (R178, R181, R183, R184). -/
structure Pfu.Sound (p : Pfu) : Prop where
  inUse : ∀ q, p.inUse = some q → ∃ m, fieldFinding m = none ∧ q = profileOf m
  applying : p.task.applies = true → p.conf = .applying ∧ fieldFinding p.edit = none

theorem profileSound_iff (s : State) : ProfileSound s ↔ s.pfu.Sound := by
  refine ⟨fun ⟨hinUse, happly⟩ => ⟨hinUse, fun h => ?_⟩, fun h => ⟨h.inUse, fun page again ht => ?_⟩⟩
  · cases ht : s.pfu.task with
    | apply page again => exact happly page again ht
    | _ => simp [ht, PfuTask.applies] at h
  · exact h.applying (by rw [ht]; rfl)

section
variable {p q : Pfu} (m : PfuMove p q)
include m

theorem PfuMove.inForce (h : p.InForce) : q.InForce := by
  cases m with
  | still conf inUse _ | edited _ conf inUse _ =>
    exact ⟨conf ▸ inUse ▸ h.unused, conf ▸ inUse ▸ h.used, inUse ▸ h.slots⟩
  | begins conf inUse _ => exact ⟨by simp [conf], by simp [conf], inUse ▸ h.slots⟩
  | loaded m _ conf inUse _ =>
    refine ⟨by simp [conf], by simp [inUse], fun r hr => ?_⟩
    cases inUse.symm.trans hr
    exact profileOf_lockouts_length m
  | applied _ conf inUse _ =>
    refine ⟨by simp [conf], by simp [inUse], fun r hr => ?_⟩
    cases inUse.symm.trans hr
    exact profileOf_lockouts_length p.edit
  | left conf inUse _ => exact ⟨fun _ => inUse, by rintro hc; simp [hc] at conf, by simp [inUse]⟩

theorem PfuMove.sound (h : p.Sound) : q.Sound := by
  cases m with
  | still conf inUse task =>
    refine ⟨inUse ▸ h.inUse, fun ht => ?_⟩
    obtain ⟨was, hedit⟩ := task ht
    rw [conf, hedit]
    exact h.applying was
  | edited idle conf inUse task =>
    refine ⟨inUse ▸ h.inUse, fun ht => ?_⟩
    obtain ⟨happlying, -⟩ := h.applying (task ▸ ht)
    simp [happlying, Conf.busy] at idle
  | begins conf inUse edit => exact ⟨inUse ▸ h.inUse, fun _ => ⟨conf, edit⟩⟩
  | loaded m valid _ inUse task =>
    refine ⟨fun r hr => ⟨m, valid, ?_⟩, by simp [task]⟩
    exact Option.some.inj (hr.symm.trans inUse)
  | applied was _ inUse task =>
    refine ⟨fun r hr => ⟨p.edit, (h.applying was).2, ?_⟩, by simp [task]⟩
    exact Option.some.inj (hr.symm.trans inUse)
  | left _ inUse task => exact ⟨by simp [inUse], by simp [task]⟩

end

end Sys2Proof.Machine

end


section
/-! PROOFS. What every step keeps of the lockouts and of the profile in use. -/

namespace Sys2Proof.Machine

open Sys2Proof.Safety

/-! ## The bodies of the Profile Unit's events -/

/-- The published inputs and the supply's recovery, the ends of the port's operations and the four requests (R181 to
R185). -/
inductive PfuBody (s : State) : (PfuWork → PfuWork) → Prop where
  | inputs : PfuBody s (pfuInputs s)
  | recovered : PfuBody s (pfuRecoveryExpired s)
  | readEnd (outcome : PageEnd) : PfuBody s (pfuReadEnd outcome)
  | writeEnd (outcome : WriteEnd) : PfuBody s (pfuWriteEnd outcome)
  | read (source sect offset count : Nat) : PfuBody s (bodyProfileRead source sect offset count)
  | write (sect offset : Nat) (bytes : List Byte) : PfuBody s (bodyProfileWrite s sect offset bytes)
  | apply : PfuBody s (bodyProfileApply s)
  | discard : PfuBody s bodyProfileDiscard

theorem PfuBody.move {s : State} {body : PfuWork → PfuWork} (h : PfuBody s body) (w : PfuWork) :
    PfuMove w.pfu (body w).pfu := by
  cases h with
  | inputs => exact pfuInputs_move s w
  | recovered => exact pfuRecoveryExpired_move s w
  | readEnd outcome => exact pfuReadEnd_move w outcome
  | writeEnd outcome => exact pfuWriteEnd_move w outcome
  | read source sect offset count => exact bodyProfileRead_move w source sect offset count
  | write sect offset bytes => exact bodyProfileWrite_move s w sect offset bytes
  | apply => exact bodyProfileApply_move s w
  | discard => exact bodyProfileDiscard_move w

/-! ## What reaches the lockouts and the profile

The Lockout Unit and the Profile Unit change by their own events alone; of the other blocks these laws read the adoption
of the drives, which stands once it is complete. A law kept by those events and by a reset is kept by every step. -/

/-- A law of the Lockout Unit, the Profile Unit and adoption that every event keeps. -/
structure KeptByEvents (P : State → Prop) : Prop where
  still : ∀ {s t : State}, P s → t.lku = s.lku → t.pfu = s.pfu →
    (s.deu.adopted = true → t.deu.adopted = true) → P t
  lockouts : ∀ {s : State} {body : LkuWork → LkuWork}, LkuBody s body → P s → P (s.lkuTakes body)
  profile : ∀ {s : State} {body : PfuWork → PfuWork}, PfuBody s body → P s → P (s.pfuTakes body)
  reset : ∀ high faults schedule pending, P (.afterReset high faults schedule pending)

namespace KeptByEvents

variable {P : State → Prop} (law : KeptByEvents P) {s : State} (h : P s)
include law h

theorem deuTakes {body : DeuWork → DeuWork} (hbody : ∀ w, (body w).deu.adopted = w.deu.adopted) :
    P (s.deuTakes body) :=
  law.still h rfl rfl fun ha => State.deuTakes_adopted ha hbody

theorem deuEvent (e : Event) : P (s.deuEvent e) := by
  have adopted := fun ha => State.deuEvent_adopted (s := s) ha e
  obtain he | ⟨w, he⟩ := s.deuEvent_cases e <;> rw [he] at adopted ⊢
  · exact h
  · exact law.still h rfl rfl adopted

theorem lkuRequest {body : LkuWork → LkuWork} (hbody : LkuBody s body) : P (s.lkuRequest body) :=
  law.still (law.lockouts hbody h) rfl rfl id

/-- A publication taken by any block. -/
theorem deliver (b : Block) (e : Event) : P (s.deliver b e) := by
  cases b with
  | lku =>
    obtain he | ⟨body, hbody, he⟩ := s.lkuEvent_body e <;> rw [State.deliver, he]
    · exact h
    · exact law.lockouts hbody h
  | pfu =>
    obtain he | he := s.pfuEvent_cases e <;> rw [State.deliver, he]
    · exact h
    · exact law.profile .inputs h
  | deu => exact deuEvent law h e
  | isu | tgu => cases e <;> exact law.still h rfl rfl id
  | lbu => obtain he | ⟨b, r, he⟩ := s.lbuEvent_cases e <;> rw [State.deliver, he] <;> exact law.still h rfl rfl id
  | ppu => obtain he | ⟨w, he⟩ := s.ppuEvent_cases e <;> rw [State.deliver, he] <;> exact law.still h rfl rfl id
  | tau => obtain he | ⟨w, he⟩ := s.tauEvent_cases e <;> rw [State.deliver, he] <;> exact law.still h rfl rfl id
  | drc => obtain he | ⟨w, he⟩ := s.drcEvent_cases e <;> rw [State.deliver, he] <;> exact law.still h rfl rfl id
  | lnk =>
    obtain he | ⟨body, he⟩ | ⟨r, -, he⟩ := s.lnkEvent_cases e <;> rw [State.deliver, he] <;>
      exact law.still h rfl rfl id

theorem finish : P s.finish := by
  have settled : P (settle Config.settleBound s) :=
    settle_keeps_all P (fun _ ht => law.still ht rfl rfl id)
      (fun t b e left ht => deliver law (s := { t with agenda := left, schedule := t.schedule.drop 1 })
        (law.still ht rfl rfl id) b e) _ s h
  rw [State.finish]
  obtain hr | ⟨-, hr⟩ := State.restartIfDue_cases (settle Config.settleBound s) <;> rw [hr]
  · exact settled
  · exact law.reset _ _ _ _

/-! Requests. -/

theorem onDrive (b : Byte) {f : Drive → State} (hf : ∀ d, P (f d)) : P (s.onDrive b f) := by
  unfold State.onDrive
  split
  · exact hf _
  · exact law.still h rfl rfl id

theorem clearFill : P s.clearFill := by
  unfold State.clearFill
  split <;> exact law.still h rfl rfl id

theorem getTank (tank : Nat) : P (s.getTank tank) := by
  unfold State.getTank
  split <;> exact law.still h rfl rfl id

theorem setMask (mask : BitVec 16) : P (s.setMask mask) := by
  unfold State.setMask
  split <;> exact law.still h rfl rfl id

theorem requestRestart : P s.requestRestart := by
  unfold State.requestRestart
  split
  · exact law.still h rfl rfl id
  · split <;> exact law.still h rfl rfl id

/-- A request passed to its owner: the Drive Engagement Unit, the Lockout Unit, the Profile Unit, or one that these
laws do not read. -/
theorem own (kind : Nat) (b : List Byte) : P (s.own kind b) := by
  unfold State.own
  split
  case h_3 => exact getTank law h _
  case h_5 => exact setMask law h _
  case h_6 => exact onDrive law h _ fun d => law.still (deuTakes law h (bodyEngage_adopted s d)) rfl rfl id
  case h_7 => exact onDrive law h _ fun d => law.still (deuTakes law h (bodyRelease_adopted s d)) rfl rfl id
  case h_10 => exact clearFill law h
  case h_11 => exact lkuRequest law h (.confirm _)
  case h_12 => exact lkuRequest law h (.override _ _)
  case h_13 => exact lkuRequest law h (.cancel _)
  case h_19 => exact law.profile (.read _ _ _ _) h
  case h_20 => exact law.profile (.write _ _ _) h
  case h_21 => exact law.profile .apply h
  case h_22 => exact law.profile .discard h
  case h_23 => exact requestRestart law h
  all_goals exact law.still h rfl rfl id

theorem serve (f : Frame) : P (s.serve f) := by
  unfold State.serve
  dsimp only
  split
  · exact law.still h rfl rfl id
  split
  · exact law.still h rfl rfl id
  refine own law ?_ _ _
  exact law.still h rfl rfl id

theorem offerFrame (f : Frame) : P (s.offerFrame f) := by
  unfold State.offerFrame
  split
  · exact serve law h f
  · split <;> exact law.still h rfl rfl id

theorem replySent : P s.replySent := by
  unfold State.replySent
  split
  · split
    · exact law.still h rfl rfl id
    · refine serve law ?_ _
      exact law.still h rfl rfl id
    · exact law.still h rfl rfl id
  · exact h

theorem receive (b : Byte) (framingError : Bool) : P (s.receive b framingError) := by
  unfold State.receive
  dsimp only
  split
  · split
    · exact law.still h rfl rfl id
    · exact h
  split
  · exact law.still h rfl rfl id
  unfold State.assemble
  dsimp only
  split
  · exact law.still h rfl rfl id
  split
  · exact law.still h rfl rfl id
  split
  · refine offerFrame law ?_ _
    exact law.still h rfl rfl id
  · exact law.still h rfl rfl id

/-! The ends of the port's operations. -/

theorem slotWriteEnded (outcome : WriteEnd) : P (s.slotWriteEnded outcome) := by
  unfold State.slotWriteEnded
  split <;> exact law.still h rfl rfl id

theorem slotReadEnded (outcome : SlotEnd) : P (s.slotReadEnded outcome) := by
  unfold State.slotReadEnded
  split <;> exact law.still h rfl rfl id

theorem pageReadEnded (outcome : PageEnd) : P (s.pageReadEnded outcome) := by
  unfold State.pageReadEnded
  split
  · exact law.profile (.readEnd outcome) (law.still h rfl rfl id)
  · exact h

theorem pageWriteEnded (outcome : WriteEnd) : P (s.pageWriteEnded outcome) := by
  unfold State.pageWriteEnded
  split
  · exact law.profile (.writeEnd outcome) (law.still h rfl rfl id)
  · exact h

/-! Commands. -/

theorem ownEffect (c : Instr) : P (Machine.ownEffect c s) := by
  cases c with
  | powerOnReset | pinReset => exact law.reset _ _ _ _
  | recoveryTimerExpiry => exact law.profile .recovered h
  | permissiveTimerExpiry d => exact deuTakes law h (bodyPermissiveExpired_adopted d)
  | confirmTimerExpiry d => exact deuTakes law h (bodyConfirmExpired_adopted s d)
  | retryOffExpiry d => exact deuTakes law h (bodyRetryOffExpired_adopted s d)
  | restoreTimerExpiry => exact deuTakes law h endRestore_adopted
  | idleTimerExpiry d => exact deuTakes law h (bodyIdleExpired_adopted s d)
  | positionTimerExpiry d | slipTimerExpiry d | stallTimerExpiry d =>
    exact deuTakes law h fun w => bodyMonitorFault_adopted s d w _
  | overspeedTimerExpiry => exact deuTakes law h bodyOverspeedExpired_adopted
  | overrideTimerExpiry slot => exact law.lockouts (.expired _) h
  | halfPageWriteEnd _ outcome => exact slotWriteEnded law h outcome
  | slotReadEnd _ outcome => exact slotReadEnded law h outcome
  | pageReadEnd _ outcome => exact pageReadEnded law h outcome
  | pageWriteEnd _ outcome => exact pageWriteEnded law h outcome
  | hlrxByte _ b framingError => exact receive law h b framingError
  | replySent => exact replySent law h
  | scan | pulse | holdTimerExpiry | stillTimerExpiry | gaugeCycle | recloseTimerExpiry | lowPressureTimerExpiry
  | noRiseTimerExpiry | persistTimerExpiry | dryTimerExpiry | dryRunClearExpiry | transferTimerExpiry
  | reclaimTimerExpiry | syncTimerExpiry | gapTimerExpiry => exact law.still h rfl rfl id
  | _ => exact offerFrame law h _

theorem exec {c : Instr} {t : State} (ht : Machine.exec c s = .next t) : P t := by
  obtain he | ⟨-, he⟩ | ⟨-, time, -, he⟩ := exec_cases c s <;> cases he.symm.trans ht
  · exact h
  · exact ownEffect law h c
  · exact finish law (ownEffect law (s := s.beginAt time) (law.still h rfl rfl id) c)

theorem step {t : State} (ht : Machine.step s = .next t) : P t := by
  unfold Machine.step at ht
  split at ht
  case h_1 =>
    cases ht
    exact h
  case h_2 rest _ => exact exec law (s := { s with pending := rest }) (law.still h rfl rfl id) ht

end KeptByEvents

/-! ## The laws -/

theorem lockoutsKept_iff (s : State) : LockoutsKept s ↔
    s.lku.Sound s.deu.adopted ∧ (s.lku.builtInActive = true → s.lku.do3 = true) :=
  ⟨fun ⟨capacity, distinct, table, records, built, held⟩ => ⟨⟨⟨table, records⟩, capacity, distinct, held⟩, built⟩,
    fun ⟨⟨⟨table, records⟩, capacity, distinct, held⟩, built⟩ => ⟨capacity, distinct, table, records, built, held⟩⟩

theorem Pfu.reset_inForce : Pfu.reset.InForce := ⟨fun _ => rfl, fun h => (nomatch h), fun _ h => (nomatch h)⟩

theorem Pfu.reset_sound : Pfu.reset.Sound := ⟨fun _ h => (nomatch h), fun h => (nomatch h)⟩

/-- The lockouts stay as they should in each event of the Lockout Unit, given that the profile in use has 16 slots, and
the profile in force in each event of the Profile Unit. -/
theorem lockoutsAndProfile_kept : KeptByEvents fun s => LockoutsKept s ∧ ProfileInForce s where
  still := by
    intro s t ⟨hlockouts, hprofile⟩ hlku hpfu hadopted
    rw [profileInForce_iff] at hprofile ⊢
    obtain ⟨⟨full, capacity, distinct, held⟩, built⟩ := (lockoutsKept_iff s).1 hlockouts
    have held' : t.deu.adopted = false → s.lku.startHold = true := fun ht => by
      cases hs : s.deu.adopted with
      | false => exact held hs
      | true => exact absurd (hadopted hs) (by simp [ht])
    rw [lockoutsKept_iff, hlku, hpfu]
    exact ⟨⟨⟨full, capacity, distinct, held'⟩, built⟩, hprofile⟩
  lockouts := by
    intro s body hbody ⟨hlockouts, hprofile⟩
    obtain ⟨sound, -⟩ := (lockoutsKept_iff s).1 hlockouts
    have sound' := hbody.sound hprofile.2 (w := { lku := s.lku }) sound
    exact ⟨(lockoutsKept_iff _).2 ⟨sound'.settled s, lkuSettled_do3_of_builtIn s (body { lku := s.lku }).lku⟩, hprofile⟩
  profile := by
    intro s body hbody ⟨hlockouts, hprofile⟩
    rw [profileInForce_iff] at hprofile ⊢
    exact ⟨hlockouts, (hbody.move { pfu := s.pfu }).inForce hprofile⟩
  reset _ _ _ _ :=
    ⟨(lockoutsKept_iff _).2 ⟨Lku.reset_sound, fun _ => rfl⟩, (profileInForce_iff _).2 Pfu.reset_inForce⟩

theorem profileSound_kept : KeptByEvents ProfileSound where
  still := by
    intro s t h _ hpfu _
    rw [profileSound_iff] at h ⊢
    rwa [hpfu]
  lockouts _ h := h
  profile := by
    intro s body hbody h
    rw [profileSound_iff] at h ⊢
    exact (hbody.move { pfu := s.pfu }).sound h
  reset _ _ _ _ := (profileSound_iff _).2 Pfu.reset_sound

/-- Settles O10: every event of the two units keeps their laws, and no other event touches them. -/
theorem stepKeepsLockoutsAndProfile : Obligations.StepKeepsLockoutsAndProfile :=
  ⟨fun _ _ hlockouts hprofile => lockoutsAndProfile_kept.step ⟨hlockouts, hprofile⟩,
    fun _ _ h => profileSound_kept.step h⟩

end Sys2Proof.Machine

end


section
/-! PROOFS. The reading requests and an unknown kind are answered at once. -/

namespace Sys2Proof.Machine

open Sys2Proof.Safety

/-- What a request that only reads leaves: the command has begun, and the reply stands on the link (R167, R168). -/
def State.answered (s : State) (time : Micros) (kind tag : Byte) (body : List Byte) : State :=
  { s with
    now := time, agenda := [], port := s.port.serve
    lnk := { s.lnk with service := some ⟨kind, tag, some (replyFrame kind tag body)⟩ } }

section
variable {s : State} (h : LinkFree s)
include h

/-- A request in service answered with nothing handed over ends the command. -/
theorem State.finish_answer (time : Micros) (kind tag : Byte) (body : List Byte) :
    ((s.inService time kind tag).answer body).finish = s.answered time kind tag body :=
  State.finish_quiet (s := (s.inService time kind tag).answer body) rfl h.2

/-- A request whose owner only answers it. -/
theorem exec_answered {c : Instr} {dt : Micros} {f : Frame} (hc : requestFrame c = some (dt, f))
    (hkind : requestKinds.contains f.kind = true)
    (hlength : lengthAllowed f.kind.toNat f.body.length = true) {body : List Byte}
    (hown : (s.inService (s.now + dt) f.kind f.tag).own f.kind.toNat f.body =
      (s.inService (s.now + dt) f.kind f.tag).answer body) :
    exec c s = .next (s.answered (s.now + dt) f.kind f.tag body) := by
  rw [exec_own hc h hkind hlength, hown, State.finish_answer h]

/-- A kind outside the table is answered UNKNOWN_KIND (R168). -/
theorem exec_unknownKind {kind : Byte} (hkind : kind ∉ requestKinds) (dt : Micros) (tag : Byte) (body : List Byte) :
    exec (.unknownKind dt tag kind body) s = .next (s.answered (s.now + dt) kind tag [3#8]) := by
  have serve : (s.beginAt (s.now + dt)).offerFrame ⟨kind, tag, body⟩ =
      (s.inService (s.now + dt) kind tag).answer [3#8] := by
    obtain ⟨hservice, hrestart⟩ := h
    simp [State.offerFrame, State.serve, hservice, hrestart, hkind, State.inService, State.answerStatus, Status.bytes]
  rw [exec_request (c := .unknownKind dt tag kind body) rfl, serve, State.finish_answer h]

end

/-! ## What the replies read

None of them reads the request in service, the port or the publications waiting; GET LOCKOUTS reads the time. -/

section
variable (s : State) (time : Micros) (kind tag : Byte)

theorem statusReply_inService : statusReply (s.inService time kind tag) = statusReply s := rfl

theorem inputsReply_inService : inputsReply (s.inService time kind tag) = inputsReply s := rfl

theorem tankReply_inService (t : Tank) : tankReply (s.inService time kind tag) t = tankReply s t := rfl

theorem lockoutsReply_inService :
    lockoutsReply (s.inService time kind tag) = lockoutsReply { s with now := time } := rfl

end

theorem tankOf_eq_none_iff (n : Nat) : tankOf n = none ↔ 3 < n := by
  match n with
  | 0 | 1 | 2 | 3 => simp [tankOf]
  | n + 4 => simp [tankOf]

/-! Each owner's reply. -/

section
variable (s : State)

theorem State.answerOk_eq (data : List Byte) : s.answerOk data = s.answer (0#8 :: data) := rfl

theorem State.own_getStatus : s.own 0x01 [] = s.answer (0#8 :: statusReply s) := s.answerOk_eq _

theorem State.own_getInputs : s.own 0x02 [] = s.answer (0#8 :: inputsReply s) := s.answerOk_eq _

/-- GET TANK is answered with the tank's reply, or BAD_VALUE where it names none (R176). -/
theorem State.own_getTank (tank : Byte) : s.own 0x03 [tank] = s.answer
    (match tankOf tank.toNat with
      | some t => 0#8 :: tankReply s t
      | none => [5#8]) := by
  have own : s.own 0x03 [tank] = s.getTank tank.toNat := rfl
  rw [own, State.getTank]
  cases tankOf tank.toNat <;> rfl

theorem State.own_getLockouts : s.own 0x23 [] = s.answer (0#8 :: lockoutsReply s) := s.answerOk_eq _

end

/-- Settles O53, by the requests: each goes to its owner, which forms the reply from the state as it stands. -/
theorem readingRequestsAnswerAtOnce : Obligations.ReadingRequestsAnswerAtOnce := by
  intro dt tag s hfree answers
  refine ⟨?status, ?inputs, fun tank => ?tank, fun tank => tankOf_eq_none_iff _, ?lockouts,
    fun kind body hkind => exec_unknownKind hfree hkind dt tag body⟩
  case status =>
    have own := State.own_getStatus (s.inService (s.now + dt) 0x01#8 tag)
    rw [statusReply_inService] at own
    exact exec_answered (c := .getStatus dt tag) hfree rfl rfl rfl own
  case inputs =>
    have own := State.own_getInputs (s.inService (s.now + dt) 0x02#8 tag)
    rw [inputsReply_inService] at own
    exact exec_answered (c := .getInputs dt tag) hfree rfl rfl rfl own
  case tank =>
    have own := State.own_getTank (s.inService (s.now + dt) 0x03#8 tag) tank
    simp only [tankReply_inService] at own
    exact exec_answered (c := .getTank dt tag tank) hfree rfl rfl rfl own
  case lockouts =>
    have own := State.own_getLockouts (s.inService (s.now + dt) 0x23#8 tag)
    rw [lockoutsReply_inService] at own
    exact exec_answered (c := .getLockouts dt tag) hfree rfl rfl rfl own

end Sys2Proof.Machine

end


section
/-! PROOFS. Terms, modes, effects, DO3, DO7 and the built-ins at the end of the Lockout Unit's events. -/

namespace Sys2Proof.Machine

/-! ## Terms and modes (R118, R119, R121) -/

/-- An unknown term counts, and any other counts when its truth differs from its negate (R119). -/
theorem termCounts_iff (s : State) (t : Term) :
    termCounts s t = true ↔ termTruth s t.kind = none ∨ termTruth s t.kind = some (!t.negate) := by
  unfold termCounts
  cases termTruth s t.kind with
  | none => simp
  | some x => cases x <;> cases t.negate <;> simp

theorem entryActive_iff (s : State) (e : LockoutEntry) : entryActive s e = true ↔
    ∀ t ∈ e.terms, termTruth s t.kind = none ∨ termTruth s t.kind = some (!t.negate) := by
  simp only [entryActive, List.all_eq_true, termCounts_iff]

theorem formEffective_iff (m : Mode) (active overridden confirmed : Bool) :
    formEffective m active overridden confirmed = true ↔
      active = true ∧ overridden = false ∧ (m = .hard ∨ m = .confirm ∧ confirmed = false) := by
  cases m <;> simp [formEffective, and_assoc]

/-- An override takes an entry out of force whatever its mode (R121, R126). -/
@[simp] theorem formEffective_overridden (m : Mode) (active confirmed : Bool) :
    formEffective m active true confirmed = false := by
  cases m <;> simp [formEffective]

theorem WatchState.acting_eq (x : WatchState) : x.acting = (decide (x = .tripped) || decide (x = .recovering)) := by
  cases x <;> rfl

/-- WATCH_TRIPPED of a threshold watch has no truth with its input UNKNOWN and is false without one (R118). -/
theorem termTruth_watchTripped (s : State) (d : Drive) (k : Watch) :
    let r := (s.ppu.watches.get d).get k
    let tripped : Bool := r.state = .tripped || r.state = .recovering
    termTruth s (.watchTripped d k) =
      if k ≠ .dryRun ∧ r.health = .unknown then none
      else if k ≠ .dryRun ∧ r.health = .none then some false else some tripped := by
  intro r tripped
  have acting : r.state.acting = tripped := r.state.acting_eq
  change (if k ≠ .dryRun ∧ r.health = .unknown then none
    else some (r.state.acting && (k = .dryRun || r.health ≠ .none))) = _
  rw [acting]
  by_cases hk : k = .dryRun
  · simp [hk]
  · by_cases hh : r.health = .none <;> simp [hk, hh]

/-! ## The built-ins and the lamp (R114, R116) -/

theorem mainGearActive_iff (s : State) :
    mainGearActive s = true ↔ s.deu.drives.main.state ≠ .disengaged ∨ s.isu.pub.split ≠ .road := by
  simp [mainGearActive, State.driveState, PerDrive.get]

theorem auxGearActive_iff (s : State) : auxGearActive s = true ↔
    s.deu.drives.aux.state = .preparing ∨ s.deu.drives.aux.state = .shifting ∨
      s.deu.drives.aux.state = .releasing ∨ s.deu.drives.aux.state = .faulted ∨
      s.deu.drives.aux.state = .engaged ∧ s.level .pumpRollSelect = false := by
  have aux : s.driveState .aux = s.deu.drives.aux.state := rfl
  rw [auxGearActive, aux]
  cases s.deu.drives.aux.state <;> simp

theorem lampLit_iff (s : State) : lampLit s = true ↔
    (s.deu.drives.main.state = .engaged ∧ s.level .parkBrake = true ∧ s.level .transNeutral = true) ∨
    ((s.deu.drives.aux.state = .engaged ∨ s.deu.drives.aux.state = .rolling) ∧
      ∀ a ∈ s.ppu.alarms, ∀ d, a.cause ≠ .driveFault d) := by
  have main : s.driveState .main = s.deu.drives.main.state := rfl
  have turning : s.turning .aux = true ↔
      s.deu.drives.aux.state = .engaged ∨ s.deu.drives.aux.state = .rolling := by
    have aux : s.turning .aux = s.deu.drives.aux.state.turning := rfl
    rw [aux]
    cases s.deu.drives.aux.state <;> simp [DriveState.turning]
  have faults (a : Alarm) : (∀ d, a.cause ≠ .driveFault d) ↔
      ¬ (a.cause = .driveFault .main ∨ a.cause = .driveFault .aux) :=
    ⟨fun h => by rintro (h' | h') <;> exact h _ h', fun h d hd => h (by cases d <;> simp [hd])⟩
  simp only [lampLit, main, faults, Bool.or_eq_true, Bool.and_eq_true, turning, decide_eq_true_eq, Bool.not_eq_true',
    List.any_eq_false, and_assoc]

/-! ## What each event makes of the built-ins and the lamp -/

/-- Entries evaluated one after another change the records alone. -/
theorem evaluateSlots_lku (s : State) (ns : List Nat) (w : LkuWork) :
    (ns.foldl (fun w n => evaluateSlot s n w) w).lku =
      { w.lku with records := (ns.foldl (fun w n => evaluateSlot s n w) w).lku.records } := by
  induction ns generalizing w with
  | nil => rfl
  | cons n rest ih =>
    rw [List.foldl_cons, ih]
    rfl

/-- The key's removal ends the overrides and rebuilds the records (R128). -/
theorem removeKey_lku (s : State) (w : LkuWork) : (removeKey s w).lku =
    { w.lku with overrides := (removeKey s w).lku.overrides, records := (removeKey s w).lku.records } := by
  have ended : (removeKey s w).lku = { ((w.lku.overrides.map (·.slot)).foldl (fun w n => evaluateSlot s n w) w).lku with
    overrides := (removeKey s w).lku.overrides } := rfl
  rw [ended, evaluateSlots_lku]

section
variable (s : State) (w : LkuWork)

theorem lkuInputs_lku : ∃ overrides records, (lkuInputs s w).lku = { w.lku with
    mainGear := mainGearActive s, auxGear := auxGearActive s, do7 := lampLit s
    overrides := overrides, records := records } := by
  unfold lkuInputs
  dsimp only
  split
  · exact ⟨_, _, removeKey_lku s _⟩
  · exact ⟨_, _, rfl⟩

theorem lkuConf_lku (before after : Conf) : ∃ table records overrides, (lkuConf s before after w).lku = { w.lku with
    mainGear := mainGearActive s, auxGear := auxGearActive s
    table := table, records := records, overrides := overrides } := by
  obtain h | h | h := lkuConf_cases s before after w <;> rw [h] <;> exact ⟨_, _, _, rfl⟩

end

section
variable {s : State} {e : Event}

/-- The events that bring MAIN_GEAR and AUX_GEAR up to date (R114). -/
def Event.RefreshesGears (e : Event) : Prop :=
  e = .inputs ∨ e = .drives ∨ ∃ before after, e = .conf before after

theorem State.lkuEvent_gears (h : e.RefreshesGears) :
    (s.lkuEvent e).lku.mainGear = mainGearActive s ∧ (s.lkuEvent e).lku.auxGear = auxGearActive s := by
  obtain rfl | rfl | ⟨before, after, rfl⟩ := h
  · obtain ⟨_, _, hl⟩ := lkuInputs_lku s { lku := s.lku }
    simp [State.lkuEvent, State.lkuTakes, hl]
  · exact ⟨rfl, rfl⟩
  · obtain ⟨_, _, _, hl⟩ := lkuConf_lku s { lku := s.lku } before after
    simp [State.lkuEvent, State.lkuTakes, hl]

theorem State.lkuEvent_gears_kept (h : ¬ e.RefreshesGears) :
    (s.lkuEvent e).lku.mainGear = s.lku.mainGear ∧ (s.lkuEvent e).lku.auxGear = s.lku.auxGear := by
  cases e with
  | inputs => exact absurd (.inl rfl) h
  | drives => exact absurd (.inr (.inl rfl)) h
  | conf before after => exact absurd (.inr (.inr ⟨before, after, rfl⟩)) h
  | _ => exact ⟨rfl, rfl⟩

/-- START_HOLD is touched by the publication of adoption alone (R114). -/
theorem State.lkuEvent_startHold_kept (h : e ≠ .drives) : (s.lkuEvent e).lku.startHold = s.lku.startHold := by
  cases e with
  | drives => exact absurd rfl h
  | inputs =>
    obtain ⟨_, _, hl⟩ := lkuInputs_lku s { lku := s.lku }
    simp [State.lkuEvent, State.lkuTakes, hl]
  | conf before after =>
    obtain ⟨_, _, _, hl⟩ := lkuConf_lku s { lku := s.lku } before after
    simp [State.lkuEvent, State.lkuTakes, hl]
  | _ => rfl

theorem State.lkuEvent_startHold_drives :
    (s.lkuEvent .drives).lku.startHold = (s.lku.startHold && !s.deu.adopted) := rfl

/-- The events that bring the lamp up to date: an ISU, a DEU or a PPU publication (R116). -/
def Event.RefreshesLamp (e : Event) : Prop := e = .inputs ∨ e = .drives ∨ e = .watches

theorem State.lkuEvent_lamp (h : e.RefreshesLamp) : (s.lkuEvent e).lku.do7 = lampLit s := by
  obtain rfl | rfl | rfl := h
  · obtain ⟨_, _, hl⟩ := lkuInputs_lku s { lku := s.lku }
    simp [State.lkuEvent, State.lkuTakes, hl]
  · rfl
  · rfl

theorem State.lkuEvent_lamp_kept (h : ¬ e.RefreshesLamp) : (s.lkuEvent e).lku.do7 = s.lku.do7 := by
  cases e with
  | inputs => exact absurd (.inl rfl) h
  | drives => exact absurd (.inr (.inl rfl)) h
  | watches => exact absurd (.inr (.inr rfl)) h
  | conf before after =>
    obtain ⟨_, _, _, hl⟩ := lkuConf_lku s { lku := s.lku } before after
    simp [State.lkuEvent, State.lkuTakes, hl]
  | _ => rfl

/-- An event that refreshes the built-ins ends with DO3 asserted while one is active (R115). -/
theorem State.lkuEvent_do3 (h : e.RefreshesGears) (hb : (s.lkuEvent e).lku.builtInActive = true) :
    (s.lkuEvent e).lku.do3 = true := by
  obtain rfl | rfl | ⟨before, after, rfl⟩ := h <;> exact lkuSettled_do3_of_builtIn s _ hb

end

/-- Settles O41: terms and modes by their cases, effects as a search by number, the end of an event by what it rebuilds,
and the built-ins and the lamp event by event. -/
theorem lockoutsFollowTheirTerms : Obligations.LockoutsFollowTheirTerms := by
  refine ⟨entryActive_iff, formEffective_iff, fun l t n ht hr => ?effect, fun s w ht hr => ?settled,
    fun s e => ?lamp, termTruth_watchTripped, fun s e => ?gears⟩
  case effect => exact ⟨Lku.effect_eq_some ⟨ht, hr⟩, Lku.effect_eq_none ⟨ht, hr⟩⟩
  case settled =>
    have full : w.lku.Full := ⟨ht, hr⟩
    refine ⟨fun n hn => ?_, ?_⟩
    · rw [State.lkuCommit_lku, lkuSettled_entryRec s full hn]
    · rw [State.lkuCommit_lku, lkuSettled_do3 s full, Lku.builtInActive_iff, or_assoc, or_assoc]
      rfl
  case lamp =>
    split
    case isTrue h => rw [State.lkuEvent_lamp h, lampLit_iff]
    case isFalse h => exact State.lkuEvent_lamp_kept h
  case gears =>
    intro l refreshes mainOut auxOut
    refine ⟨fun h => ?_, fun h => State.lkuEvent_gears_kept h, ?_, State.lkuEvent_startHold_kept, ?_⟩
    · obtain ⟨hmain, haux⟩ := State.lkuEvent_gears (s := s) h
      have main : l.mainGear = true ↔ mainOut := by rw [hmain, mainGearActive_iff]
      have aux : l.auxGear = true ↔ auxOut := by rw [haux, auxGearActive_iff]
      refine ⟨main, aux, fun hout => State.lkuEvent_do3 h ?_⟩
      rw [Lku.builtInActive_iff]
      exact hout.imp main.2 fun ha => .inl (aux.2 ha)
    · rintro rfl
      simp [l, State.lkuEvent_startHold_drives]
    · rintro rfl hold hadopted
      refine State.lkuEvent_do3 (.inr (.inl rfl)) ?_
      rw [Lku.builtInActive_iff, State.lkuEvent_startHold_drives, hold, hadopted]
      exact .inr (.inr rfl)

end Sys2Proof.Machine

end


section
/-! PROOFS. The ends of an override, CONFIRM LOCKOUT and OVERRIDE LOCKOUT. -/

namespace Sys2Proof.Machine

open Sys2Proof.Safety

/-! ## What an event of the Lockout Unit leaves unchanged -/

/-- Only the Lockout Unit acts. -/
theorem othersKept_lku (s : State) (now : Micros) (lku : Lku) (lnk : Lnk) (agenda : List (Block × Event)) :
    OthersKept .lku s
      { s with now := now, lku := lku, lnk := lnk, agenda := agenda, port := s.port.serve } :=
  ⟨fun _ => rfl, fun _ => rfl, fun _ => rfl, fun _ => rfl, fun _ => rfl, fun h => absurd rfl h, fun _ => rfl,
    fun _ => rfl, fun _ => rfl, fun _ _ => rfl, rfl, rfl, rfl⟩

theorem State.lkuCommit_acts (s : State) (time : Micros) (w : LkuWork) :
    Acts .lku time s ((s.beginAt time).lkuCommit w) :=
  ⟨rfl, othersKept_lku s _ _ _ _, noticesOnly_posts _ _ _⟩

/-- A request of the Lockout Unit is answered with the status its work ends with. -/
theorem State.lkuRequest_serves (s : State) (time : Micros) (kind tag : Byte) {body : LkuWork → LkuWork}
    {reply : List Byte} (h : (body { lku := s.lku }).status.bytes = reply) :
    Serves .lku time kind tag (some reply) s ((s.inService time kind tag).lkuRequest body) := by
  subst h
  exact ⟨rfl, othersKept_lku s _ _ _ _, noticesOnly_answer (noticesOnly_posts _ _ _) _⟩

/-- Records made in an event are handed to the Duty Recorder (R129). -/
theorem records_mem_lkuOut {w : LkuWork} {r : RecordBody} {rs : List RecordBody} (h : w.records = r :: rs)
    (s : State) (a b : Lku) : (Block.drc, Event.records (r :: rs)) ∈ (lkuOut s a b w).events := by
  simp [lkuOut, h, unlessEmpty]

/-! ## The end of an override (R127, R128) -/

/-- ACTIVE of entry `n` evaluated afresh; a slot that is not in use is not evaluated (R120, R127). -/
def refreshedActive (s : State) (l : Lku) (n : Nat) : Bool :=
  if (l.entry n).inUse then entryActive s (l.entry n) else (l.entryRec n).active

/-- What the evaluation leaves of its confirmation (R125). -/
def refreshedConfirmed (s : State) (l : Lku) (n : Nat) : Bool :=
  if (l.entry n).inUse then (l.entryRec n).confirmed && refreshedActive s l n else (l.entryRec n).confirmed

section
variable {l : Lku} (s : State) (reason : EndReason) (n : Nat)

/-- The unit after the end of an override: entry `n` evaluated, its overrides out of the list. -/
def Lku.overrideEnded (l : Lku) (s : State) (n : Nat) : Lku :=
  { l.mapRecords fun k e r => if e.inUse && k = n then evalRecord s e r else r with
    overrides := l.overrides.filter fun o => !decide (o.slot = n) }

theorem endOverride_lku (w : LkuWork) : (endOverride s reason n w).lku = w.lku.overrideEnded s n := rfl

theorem Lku.overrideEnded_full (h : l.Full) : (l.overrideEnded s n).Full :=
  ⟨h.1, (Lku.mapRecords_full h fun k e r => if e.inUse && k = n then evalRecord s e r else r).2⟩

theorem Lku.overrideEnded_entryRec (h : l.Full) (hn : n < 16) : (l.overrideEnded s n).entryRec n =
    { l.entryRec n with active := refreshedActive s l n, confirmed := refreshedConfirmed s l n } := by
  refine (Lku.mapRecords_entryRec h (fun k e r => if e.inUse && k = n then evalRecord s e r else r) hn).trans ?_
  cases hin : (l.entry n).inUse <;> simp [evalRecord, refreshedConfirmed, refreshedActive, hin]

theorem Lku.overrideEnded_overridden : (l.overrideEnded s n).overridden n = false := by
  simp [Lku.overridden, Lku.overrideEnded]

/-- An override that ends leaves its end record first among those of its slot (R129). -/
theorem endOverride_records {w : LkuWork} (hover : w.lku.overridden n = true) (hw : w.records = []) :
    ∃ rest, (endOverride s reason n w).records =
      .overrideEnd n (w.lku.entry n).target reason ((w.lku.overrideEnded s n).entryRec n).active :: rest := by
  have records : (endOverride s reason n w).records = w.records ++
      ((w.lku.overrides.filter fun o => decide (o.slot = n)).map (·.slot)).map
        (endRecord (evaluateSlot s n w).lku reason) := rfl
  obtain ⟨o, ho, hslot⟩ := List.mem_map.1 ((Lku.overridden_iff _ _).1 hover)
  have mem : o ∈ w.lku.overrides.filter fun o => decide (o.slot = n) := by simp [ho, hslot]
  obtain ⟨first, rest, hfirst⟩ := List.exists_cons_of_ne_nil (List.ne_nil_of_mem mem)
  have hn : first.slot = n := by
    have : first ∈ w.lku.overrides.filter fun o => decide (o.slot = n) := hfirst ▸ .head _
    simpa using (List.mem_filter.1 this).2
  rw [records, hw, hfirst, List.map_cons, List.map_cons, hn]
  exact ⟨_, rfl⟩

end

/-- The override of a slot is out of the list, its entry is in force again where ACTIVE and unconfirmed, and the end
record is handed over (R127, R129). -/
def OverrideEnded (s : State) (n : Nat) (reason : EndReason) (u : State) : Prop :=
  let e := s.lku.entry n
  let active := refreshedActive s s.lku n
  let confirmed := refreshedConfirmed s s.lku n
  u.lku.overrides = s.lku.overrides.filter (fun o => o.slot != n) ∧ u.lku.table = s.lku.table ∧
    u.lku.entryRec n = ⟨active, e.inUse && formEffective e.mode active false confirmed, confirmed⟩ ∧
    ∃ rest, (Block.drc, Event.records (.overrideEnd n e.target reason active :: rest)) ∈ u.agenda

theorem State.lkuCommit_overrideEnded {s : State} (hfull : s.lku.Full) {n : Nat} (hn : n < 16)
    (hover : s.lku.overridden n = true) (reason : EndReason) (status : Status) :
    OverrideEnded s n reason (s.lkuCommit { endOverride s reason n { lku := s.lku } with status := status }) := by
  have refreshed := Lku.overrideEnded_entryRec s n hfull hn
  refine ⟨rfl, rfl, ?_, ?_⟩
  · rw [State.lkuCommit_lku, endOverride_lku, lkuSettled_entryRec s (Lku.overrideEnded_full s n hfull) hn, refreshed,
      Lku.overrideEnded_overridden]
    rfl
  · obtain ⟨rest, records⟩ := endOverride_records s reason n (w := { lku := s.lku }) hover rfl
    rw [refreshed] at records
    exact ⟨rest, List.mem_append_right _ (records_mem_lkuOut records s _ _)⟩

/-! ## The commands -/

/-- The bytes of a two-byte field behind another byte read back as they were written (R188). -/
theorem rd16_field16 (b : Byte) (x : BitVec 16) : rd16 (b :: field16 x) 1 = x.toNat := by
  have hx := x.isLt
  simp only [rd16, rd8, field16, be16, byte, List.getD_cons_succ, List.getD_cons_zero, BitVec.toNat_ofNat]
  omega

theorem exec_overrideTimerExpiry {s : State} {slot : Fin 16} {due : Micros}
    (h : s.lku.overrideTimer slot.val = .running due) :
    exec (.overrideTimerExpiry slot) s = .next ((s.beginAt (max s.now due)).lkuTakes
      (lkuExpired (s.beginAt (max s.now due)) slot.val)).finish := by
  simp only [exec, execOverrideTimerExpiry, atExpiry_running h]

section
variable {s : State} (h : LinkFree s) (dt : Micros) (tag slot : Byte)
include h

theorem exec_cancelOverride : exec (.cancelOverride dt tag slot) s =
    .next ((s.inService (s.now + dt) 0x22#8 tag).lkuRequest
      (bodyCancel (s.inService (s.now + dt) 0x22#8 tag) slot.toNat)).finish :=
  exec_own (c := .cancelOverride dt tag slot) rfl h rfl rfl

theorem exec_confirmLockout : exec (.confirmLockout dt tag slot) s =
    .next ((s.inService (s.now + dt) 0x20#8 tag).lkuRequest
      (bodyConfirm (s.inService (s.now + dt) 0x20#8 tag) slot.toNat)).finish :=
  exec_own (c := .confirmLockout dt tag slot) rfl h rfl rfl

theorem exec_overrideLockout (seconds : BitVec 16) : exec (.overrideLockout dt tag slot seconds) s =
    .next ((s.inService (s.now + dt) 0x21#8 tag).lkuRequest
      (bodyOverride (s.inService (s.now + dt) 0x21#8 tag) slot.toNat seconds.toNat)).finish := by
  rw [← rd16_field16 slot seconds]
  exact exec_own (c := .overrideLockout dt tag slot seconds) rfl h rfl rfl

end

/-- The terms do not read the request in service, nor does its answer touch the entries (R118). -/
theorem OverrideEnded.answered {s u : State} {time : Micros} {kind tag : Byte} {n : Nat} {reason : EndReason}
    (h : OverrideEnded (s.inService time kind tag) n reason u) (st : Status) :
    OverrideEnded s n reason (u.answerStatus st) := h

/-! A cancellation by its tests (R128). -/

section
variable (s : State) {n : Nat}

theorem bodyCancel_above (hn : 15 < n) (w : LkuWork) : bodyCancel s n w = { w with status := .badValue } := if_pos hn

theorem bodyCancel_none {w : LkuWork} (hn : n ≤ 15) (h : w.lku.overridden n = false) :
    bodyCancel s n w = { w with status := .refused .state } := by
  simp [bodyCancel, Nat.not_lt.2 hn, h]

theorem bodyCancel_ends {w : LkuWork} (hn : n ≤ 15) (h : w.lku.overridden n = true) :
    bodyCancel s n w = { endOverride s .cancelled n w with status := .ok } := by
  simp [bodyCancel, Nat.not_lt.2 hn, h]

end

/-- Settles O42, by the expiry and the three answers to a cancellation. -/
theorem overridesEnd : Obligations.OverridesEnd := by
  intro n s ht hr l ended
  refine ⟨fun due hn hdue => ?expiry, fun dt tag hfree hbyte =>
    ⟨fun hn => ?above, fun hn hover => ?none, fun hn hover => ?cancel⟩⟩
  case expiry =>
    exact ⟨_, exec_overrideTimerExpiry hdue, State.lkuCommit_acts s _ _,
      (State.lkuCommit_overrideEnded (s := s.beginAt _) ⟨ht, hr⟩ hn (Lku.overridden_of_running hdue) _ .ok)⟩
  all_goals
    refine ⟨_, exec_cancelOverride hfree dt tag (byte n), ?_⟩
    have hslot : (byte n).toNat = n := by simp [byte, Nat.mod_eq_of_lt hbyte]
    rw [hslot]
    generalize hs : s.inService (s.now + dt) 0x22#8 tag = s'
  case above =>
    have body := bodyCancel_above s' hn { lku := s'.lku }
    subst hs
    exact ⟨State.lkuRequest_serves s _ _ _ (congrArg (·.status.bytes) body), congrArg (·.lku.overrides) body⟩
  case none =>
    have body := bodyCancel_none s' hn (w := { lku := s'.lku }) (hs ▸ hover)
    subst hs
    exact ⟨State.lkuRequest_serves s _ _ _ (congrArg (·.status.bytes) body), congrArg (·.lku.overrides) body⟩
  case cancel =>
    have body := bodyCancel_ends s' hn (w := { lku := s'.lku }) (hs ▸ hover)
    subst hs
    refine ⟨State.lkuRequest_serves s _ _ _ (congrArg (·.status.bytes) body), ?_⟩
    rw [State.lkuRequest, body]
    exact (State.lkuCommit_overrideEnded (s := s.inService (s.now + dt) 0x22#8 tag) ⟨ht, hr⟩ (by omega) hover
      .cancelled .ok).answered .ok

/-! ## CONFIRM LOCKOUT and OVERRIDE LOCKOUT (R124, R126) -/

/-- A confirmation marks the one entry and leaves what is ACTIVE (R124). -/
theorem Lku.confirm_entryRec {l : Lku} (h : l.Full) (n : Nat) {k : Nat} (hk : k < 16) :
    (l.confirm n).entryRec k = { l.entryRec k with confirmed := (l.entryRec k).confirmed || decide (k = n) } := by
  refine (Lku.mapRecords_entryRec h (fun k _ r => if k = n then { r with confirmed := true } else r) hk).trans ?_
  by_cases hkn : k = n <;> simp [hkn]

/-- After CONFIRM LOCKOUT every entry is as ACTIVE as before, and confirmed as before or, where the answer is OK, by the
request (R124). -/
theorem bodyConfirm_entryRec {s : State} {w : LkuWork} (h : w.lku.Full) (n : Nat) {k : Nat} (hk : k < 16) :
    let l := (bodyConfirm s n w).lku
    (l.entryRec k).active = (w.lku.entryRec k).active ∧ (l.entryRec k).confirmed =
      ((w.lku.entryRec k).confirmed || (confirmReply s w.lku n = [0#8] && k = n)) := by
  obtain ⟨_, body, -, confirmed⟩ | ⟨ok, body⟩ := bodyConfirm_cases s n w
  · refine ⟨by rw [body], ?_⟩
    rw [body]
    by_cases hok : confirmReply s w.lku n = [0#8] ∧ k = n
    · obtain ⟨hok, rfl⟩ := hok
      simp [confirmed hok]
    · simp [hok]
  · simp [body, ok, Lku.confirm_entryRec h n hk]

theorem bodyConfirm_reply (s : State) (n : Nat) (w : LkuWork) :
    (bodyConfirm s n w).status.bytes = confirmReply s w.lku n := by
  obtain ⟨_, body, reply, -⟩ | ⟨ok, body⟩ := bodyConfirm_cases s n w <;> rw [body]
  · exact reply
  · exact ok.symm

/-- CONFIRM LOCKOUT touches records alone (R124). -/
theorem bodyConfirm_lku (s : State) (n : Nat) {w : LkuWork} (h : w.lku.Full) :
    (bodyConfirm s n w).lku.Full ∧ (bodyConfirm s n w).lku.table = w.lku.table ∧
      (bodyConfirm s n w).lku.overrides = w.lku.overrides := by
  obtain ⟨_, body, -⟩ | ⟨-, body⟩ := bodyConfirm_cases s n w <;> rw [body]
  · exact ⟨h, rfl, rfl⟩
  · exact ⟨Lku.mapRecords_full h fun k _ r => if k = n then { r with confirmed := true } else r, rfl, rfl⟩

/-- A granted override is in the list (R126). -/
theorem grantOverride_overridden (s : State) (n seconds : Nat) (w : LkuWork) :
    (grantOverride s n seconds w).lku.overridden n = true := by
  unfold grantOverride
  dsimp only
  by_cases h : w.lku.overridden n = true
  · rw [if_pos h]
    obtain ⟨o, ho, hslot⟩ := List.mem_map.1 ((Lku.overridden_iff _ _).1 h)
    rw [Lku.overridden_iff, List.map_map]
    exact List.mem_map.2 ⟨o, ho, by simp [hslot]⟩
  · rw [if_neg h, Lku.overridden_iff]
    simp

/-- While its override stands an entry is not effective (R121, R126). -/
theorem lkuSettled_overridden (s : State) {l : Lku} (h : l.Full) {n : Nat} (hn : n < 16)
    (hover : l.overridden n = true) : ((lkuSettled s l).entryRec n).effective = false := by
  simp [lkuSettled_entryRec s h hn, hover]

/-- Settles O43, by what the two requests can do. -/
theorem confirmAndOverrideLockoutComplete : Obligations.ConfirmAndOverrideLockoutComplete := by
  intro dt tag slot s hfree ht hr n e r outside
  have full : s.lku.Full := ⟨ht, hr⟩
  have houtside : outside = unconfiguredReply s.pfu.conf := rfl
  refine ⟨?confirm, fun seconds => ?override⟩
  case confirm =>
    intro status
    let s' := s.inService (s.now + dt) 0x20#8 tag
    have hstatus : status = confirmReply s' s.lku n := by
      change status = confirmReply s s.lku n
      simp only [status, confirmReply, houtside]
      cases unconfiguredReply s.pfu.conf <;> rfl
    clear_value status
    subst hstatus
    obtain ⟨full', table, overrides⟩ := bodyConfirm_lku s' n (w := { lku := s.lku }) full
    refine ⟨_, exec_confirmLockout hfree dt tag slot, State.lkuRequest_serves s _ _ _ (bodyConfirm_reply s' n _),
      overrides, table, fun k hk => ?_⟩
    have settled := lkuSettled_entryRec s' full' hk
    obtain ⟨active, confirmed⟩ := bodyConfirm_entryRec (s := s') (w := { lku := s.lku }) full n hk
    exact ⟨(congrArg (·.active) settled).trans active, (congrArg (·.confirmed) settled).trans confirmed⟩
  case override =>
    intro status timer
    let s' := s.inService (s.now + dt) 0x21#8 tag
    have hstatus : status = overrideReply s' s.lku n seconds.toNat := by
      change status = overrideReply s s.lku n seconds.toNat
      simp only [status, overrideReply, houtside]
      cases unconfiguredReply s.pfu.conf <;> rfl
    clear_value status
    subst hstatus
    refine ⟨_, exec_overrideLockout hfree dt tag slot seconds, ?_⟩
    obtain ⟨st, body, reply, refused⟩ | ⟨ok, hslot, hroom, body⟩ :=
      bodyOverride_cases s' n seconds.toNat { lku := s.lku }
    · exact ⟨State.lkuRequest_serves s _ _ _ (Eq.trans (congrArg (·.status.bytes) body) reply),
        congrArg (·.lku.table) body, fun _ => congrArg (·.lku.overrides) body, fun h => absurd h refused⟩
    · have effective := lkuSettled_overridden s' (l := (grantOverride s' n seconds.toNat { lku := s.lku }).lku) full
        (Nat.lt_succ_of_le hslot) (grantOverride_overridden s' n _ _)
      rw [← body] at effective
      exact ⟨State.lkuRequest_serves s _ _ _ (Eq.trans (congrArg (·.status.bytes) body) ok.symm),
        congrArg (·.lku.table) body, fun h => absurd ok h, fun _ => ⟨congrArg (·.lku.overrides) body, effective,
          records_mem_lkuOut (congrArg (·.records) body) s' s.lku _⟩⟩

end Sys2Proof.Machine

end


section
/-! PROOFS. Throttle authority: the transfer and reclaim timers, RECLAIM AUTHORITY, panel requests and the drive
condition. -/

namespace Sys2Proof.Machine

open Sys2Proof.Safety

/-! ## The steps of a TAU event, by the state they find -/

section
variable (s : State) {w : TauWork} (c : AuthCause)

theorem returnIf_found (h : w.tau.state.towardPanel = true) : returnIf s true c w = toCab s c w := by
  simp [returnIf, h]

theorem returnIf_not_towardPanel (h : w.tau.state.towardPanel = false) (found : Bool) :
    returnIf s found c w = w := by
  simp [returnIf, h]

variable {s}

theorem driveLeft_of_driveCondition (h : driveCondition s = true) : driveLeft s w = w := by
  simp [driveLeft, returnIf, h]

theorem driveLeft_not_towardPanel (h : w.tau.state.towardPanel = false) : driveLeft s w = w :=
  returnIf_not_towardPanel s _ h _

theorem complete_not_idle (h : (s.panelIdle && s.atIdle) = false) : complete s w = w := by
  simp [complete, h]

theorem complete_toPanel (hidle : (s.panelIdle && s.atIdle) = true) (h : w.tau.state = .toPanel) :
    complete s w = arrive .panel .granted w := by
  simp only [complete, hidle, h, if_true]

theorem complete_toCab (hidle : (s.panelIdle && s.atIdle) = true) (h : w.tau.state = .toCab) :
    complete s w = arrive .cab .returned w := by
  simp only [complete, hidle, h, if_true]

theorem complete_cab (h : w.tau.state = .cab) : complete s w = w := by
  simp only [complete, h, ite_self]

theorem tauTransferExpired_toPanel (h : w.tau.state = .toPanel) : tauTransferExpired w = arrive .cab .notIdle w := by
  simp only [tauTransferExpired, h]

theorem tauTransferExpired_toCab (h : w.tau.state = .toCab) : tauTransferExpired w = arrive .cab .forced w := by
  simp only [tauTransferExpired, h]

theorem cabRequest_cab (h : w.tau.state = .cab) : cabRequest s w = w := by
  simp only [cabRequest, h]

theorem releaseHold_not_panel (h : w.tau.state ≠ .panel) : releaseHold s w = w := by
  simp [releaseHold, h]

theorem panelRequest_denied (h : w.tau.state = .cab) {reason : Nat} (hd : panelDenial s w.tau = some reason) :
    panelRequest s w = { w with denied := some reason } := by
  simp only [panelRequest, h, hd]

/-- The work after a panel request is granted: TO_PANEL, with the transfer timer started (R139). -/
def TauWork.requested (s : State) (w : TauWork) : TauWork :=
  let w := w.moveTo .toPanel .requested
  { w with tau := { w.tau with
    transferPurpose := some .toPanel, transfer := .started s.now (sec s.authorityParams.toPanelS) } }

theorem panelRequest_granted (h : w.tau.state = .cab) (hd : panelDenial s w.tau = none) :
    panelRequest s w = w.requested s := by
  simp only [panelRequest, h, hd, TauWork.requested]

/-- An ISU publication with an edge of PANEL_AUTH_REQ, found in CAB, is the panel request alone (R139). -/
theorem tauInputs_cab (h : w.tau.state = .cab) (hedge : s.rising .panelAuthReq = true) :
    tauInputs s w = complete s (releaseHold s (panelRequest s w)) := by
  have notToward : w.tau.state.towardPanel = false := by rw [h]; rfl
  simp [tauInputs, driveLeft_not_towardPanel notToward, cabRequest_cab h, hedge]

end

/-! ## Which steps leave authority toward the panel (R138, R141) -/

section
variable (s : State) (w : TauWork)

@[simp] theorem toCab_towardPanel (c : AuthCause) : (toCab s c w).tau.state.towardPanel = false := rfl

@[simp] theorem returnIf_towardPanel (found : Bool) (c : AuthCause) :
    (returnIf s found c w).tau.state.towardPanel = (!found && w.tau.state.towardPanel) := by
  cases found <;> cases h : w.tau.state.towardPanel <;> simp [returnIf, h]

@[simp] theorem driveLeft_towardPanel :
    (driveLeft s w).tau.state.towardPanel = (driveCondition s && w.tau.state.towardPanel) := by
  simp [driveLeft]

/-- TO_PANEL completes to PANEL, and TO_CAB to CAB (R140, R143). -/
@[simp] theorem complete_towardPanel : (complete s w).tau.state.towardPanel = w.tau.state.towardPanel := by
  cases hidle : s.panelIdle && s.atIdle with
  | false => rw [complete_not_idle hidle]
  | true =>
    cases h : w.tau.state with
    | cab => rw [complete_cab h, h]
    | toPanel => rw [complete_toPanel hidle h]; rfl
    | panel => simp only [complete, hidle, h, if_true]
    | toCab => rw [complete_toCab hidle h]; rfl

@[simp] theorem releaseHold_state : (releaseHold s w).tau.state = w.tau.state := by
  unfold releaseHold
  split <;> rfl

@[simp] theorem holdReclaim_state : (holdReclaim s w).tau.state = w.tau.state := by
  unfold holdReclaim
  split <;> rfl

variable {s w}

theorem towardPanel_of_cabRequest (h : (cabRequest s w).tau.state.towardPanel = true) :
    w.tau.state.towardPanel = true := by
  cases hs : w.tau.state with
  | toPanel | panel => rfl
  | cab | toCab => simp [cabRequest, hs, Authority.towardPanel] at h

/-- No request is granted without the drive condition (R139). -/
theorem driveCondition_of_panelDenial {t : Tau} (h : panelDenial s t = none) : driveCondition s = true := by
  cases hd : driveCondition s with
  | true => rfl
  | false => cases he : s.rising .cabAuthReq <;> simp [panelDenial, hd, he] at h

/-- A panel request moves toward the panel only where it is granted (R139). -/
theorem towardPanel_of_panelRequest (h : (panelRequest s w).tau.state.towardPanel = true) :
    w.tau.state.towardPanel = true ∨ driveCondition s = true := by
  cases hs : w.tau.state with
  | toPanel | panel => exact .inl rfl
  | toCab => simp [panelRequest, hs, Authority.towardPanel] at h
  | cab =>
    cases hd : panelDenial s w.tau with
    | none => exact .inr (driveCondition_of_panelDenial hd)
    | some reason => simp [panelRequest_denied hs hd, hs, Authority.towardPanel] at h

/-! The bodies: each looks at the drive condition before authority can come to stand toward the panel (log entry 17). -/

theorem tauInputs_driveCondition (h : (tauInputs s w).tau.state.towardPanel = true) : driveCondition s = true := by
  have kept (toward : (cabRequest s (driveLeft s w)).tau.state.towardPanel = true) : driveCondition s = true := by
    have left := towardPanel_of_cabRequest toward
    rw [driveLeft_towardPanel, Bool.and_eq_true] at left
    exact left.1
  unfold tauInputs at h
  rw [complete_towardPanel, releaseHold_state] at h
  split at h
  · exact (towardPanel_of_panelRequest h).elim kept id
  · exact kept h

theorem tauDrives_driveCondition (h : (tauDrives s w).tau.state.towardPanel = true) : driveCondition s = true := by
  simp only [tauDrives, complete_towardPanel, driveLeft_towardPanel, Bool.and_eq_true] at h
  exact h.1

theorem tauLockouts_towardPanel (h : (tauLockouts s w).tau.state.towardPanel = true) :
    driveCondition s = true ∧ s.effective .panelAuthority = false := by
  simp only [tauLockouts, complete_towardPanel, driveLeft_towardPanel, returnIf_towardPanel, Bool.and_eq_true,
    Bool.not_eq_true'] at h
  exact ⟨h.1, h.2.1⟩

/-- Some of the changes made to the cut demand set is a DRIVE_RELEASE posted (R137, R141). -/
def releasePosted (changes : List (SetOp Cut)) : Bool := changes.any fun o => o.isPost && o.member.isRelease

theorem tauCuts_towardPanel {ops : List (SetOp Cut)} (h : (tauCuts s ops w).tau.state.towardPanel = true) :
    driveCondition s = true ∧ releasePosted (takeCuts w.tau.cuts ops).2 = false := by
  simp only [tauCuts, complete_towardPanel, driveLeft_towardPanel, returnIf_towardPanel, Bool.and_eq_true,
    Bool.not_eq_true'] at h
  exact ⟨h.1, h.2.1⟩

end

/-! ## The cut demand set (R137) -/

/-- A post of one cut or a withdrawal puts no other cut into the set. -/
theorem not_mem_cutOp {cuts : List Cut} {c : Cut} {op : SetOp Cut} (h : c ∉ cuts) (hop : op ≠ .post c) :
    c ∉ cutOp cuts op := by
  cases op with
  | withdraw x => simp [cutOp, h]
  | post x =>
    have hne : c ≠ x := fun e => hop (e ▸ rfl)
    by_cases hx : x ∈ cuts <;> simp [cutOp, hx, h, hne]

/-- A cut that is posted to a set without it is among the changes. -/
theorem post_mem_takeCuts {cuts : List Cut} {ops : List (SetOp Cut)} {c : Cut} (h : c ∉ cuts)
    (hop : .post c ∈ ops) : .post c ∈ (takeCuts cuts ops).2 := by
  induction ops generalizing cuts with
  | nil => cases hop
  | cons op rest ih =>
    by_cases hfirst : op = .post c
    · subst hfirst
      simp [takeCuts, cutOp, h]
    · have later := ih (not_mem_cutOp h hfirst) ((List.mem_cons.1 hop).resolve_left fun e => hfirst e.symm)
      simp only [takeCuts]
      split
      · exact later
      · exact .tail _ later

theorem releasePosted_of_mem {changes : List (SetOp Cut)} {d : Drive}
    (h : .post (.driveRelease d) ∈ changes) : releasePosted changes = true :=
  List.any_eq_true.2 ⟨_, h, rfl⟩

/-! ## Authority taken back -/

/-- The record after authority leaves TO_PANEL or PANEL with cause `c`, the completion test of R143 made at once: the
holds and the reclaim are over, and it stands in CAB or in TO_CAB with its timer (R141 to R143). -/
def LeftPanel (s : State) (c : AuthCause) (before after : Tau) : Prop :=
  after.cuts = before.cuts ∧ after.resumeHold = false ∧ after.reclaimPending = false ∧ after.reclaim = .stopped ∧
  after.do5 = false ∧
  if s.panelIdle && s.atIdle then after.state = .cab ∧ after.cause = some .returned ∧ after.transfer = .stopped
  else after.state = .toCab ∧ after.cause = some c ∧ after.transferPurpose = some .toCab ∧ after.do4 = true ∧
    after.transfer = .running (s.now + s.authorityParams.toCabS * 1000000)

theorem complete_toCab_leftPanel (s : State) (c : AuthCause) (w : TauWork) :
    LeftPanel s c w.tau (tauOutputs (complete s (toCab s c w)).tau) := by
  unfold LeftPanel
  cases hidle : s.panelIdle && s.atIdle with
  | true =>
    rw [complete_toCab hidle rfl]
    exact ⟨rfl, rfl, rfl, rfl, rfl, rfl, rfl, rfl⟩
  | false =>
    rw [complete_not_idle hidle]
    exact ⟨rfl, rfl, rfl, rfl, rfl, rfl, rfl, rfl, rfl, rfl⟩

theorem tauReclaimExpired_leftPanel {s : State} (hdrive : driveCondition s = true) {w : TauWork}
    (h : w.tau.state.towardPanel = true) :
    LeftPanel s .reclaimForced w.tau (tauOutputs (tauReclaimExpired s w).tau) := by
  let stopped : TauWork := { w with tau := { w.tau with reclaim := .stopped } }
  have body : tauReclaimExpired s w = complete s (toCab s .reclaimForced stopped) := by
    rw [tauReclaimExpired, driveLeft_of_driveCondition hdrive]
    exact congrArg (complete s) (returnIf_found s (w := stopped) _ h)
  rw [body]
  exact complete_toCab_leftPanel s .reclaimForced stopped

/-! RECLAIM AUTHORITY by the state it finds (R142). -/

section
variable {s : State} {w : TauWork}

theorem bodyReclaim_cab (h : w.tau.state = .cab) : bodyReclaim s w = { w with status := .refused .state } := if_pos h

theorem bodyReclaim_not_cab (h : w.tau.state ≠ .cab) :
    bodyReclaim s w = complete s (returnIf s true .hostReclaim (driveLeft s w)) := if_neg h

theorem bodyReclaim_leftPanel (hdrive : driveCondition s = true) (h : w.tau.state.towardPanel = true) :
    LeftPanel s .hostReclaim w.tau (tauOutputs (bodyReclaim s w).tau) := by
  have notCab : w.tau.state ≠ .cab := fun hc => by simp [hc, Authority.towardPanel] at h
  rw [bodyReclaim_not_cab notCab, driveLeft_of_driveCondition hdrive, returnIf_found s _ h]
  exact complete_toCab_leftPanel s .hostReclaim w

/-- In TO_CAB short of idle the request changes nothing (log entry 40). -/
theorem bodyReclaim_toCab (h : w.tau.state = .toCab) (hidle : (s.panelIdle && s.atIdle) = false) :
    bodyReclaim s w = w := by
  have notToward : w.tau.state.towardPanel = false := by rw [h]; rfl
  rw [bodyReclaim_not_cab (by simp [h]), driveLeft_not_towardPanel notToward,
    returnIf_not_towardPanel s _ notToward, complete_not_idle hidle]

theorem bodyReclaim_towardPanel : (bodyReclaim s w).tau.state.towardPanel = false := by
  by_cases h : w.tau.state = .cab
  · rw [bodyReclaim_cab h, h]; rfl
  · simp [bodyReclaim_not_cab h]

/-- The steps of an event leave the status as it was; the refusal in CAB alone sets it. -/
theorem complete_status : (complete s w).status = w.status := by
  unfold complete
  split
  · split <;> rfl
  · rfl

theorem returnIf_status (found : Bool) (c : AuthCause) : (returnIf s found c w).status = w.status := by
  unfold returnIf
  split <;> rfl

theorem bodyReclaim_status (h : w.status = .ok) :
    (bodyReclaim s w).status.bytes = if w.tau.state = .cab then [2#8, 1#8] else [0#8] := by
  by_cases hc : w.tau.state = .cab
  · rw [bodyReclaim_cab hc, if_pos hc]; rfl
  · rw [bodyReclaim_not_cab hc, if_neg hc, complete_status, returnIf_status, driveLeft, returnIf_status, h]; rfl

end

/-! ## The commands -/

/-- Only the Throttle Authority Unit acts. -/
theorem othersKept_tau (s : State) (now : Micros) (tau : Tau) (lnk : Lnk) (agenda : List (Block × Event)) :
    OthersKept .tau s
      { s with now := now, tau := tau, lnk := lnk, agenda := agenda, port := s.port.serve } :=
  ⟨fun _ => rfl, fun _ => rfl, fun _ => rfl, fun _ => rfl, fun _ => rfl, fun _ => rfl, fun h => absurd rfl h,
    fun _ => rfl, fun _ => rfl, fun _ _ => rfl, rfl, rfl, rfl⟩

theorem State.tauCommit_acts (s : State) (time : Micros) (w : TauWork) :
    Acts .tau time s ((s.beginAt time).tauCommit w) :=
  ⟨rfl, othersKept_tau s _ _ _ _, noticesOnly_posts _ _ _⟩

/-- RECLAIM AUTHORITY is answered REFUSED(STATE) in CAB and OK elsewhere (R142). -/
theorem State.reclaim_serves (s : State) (time : Micros) (kind tag : Byte) :
    Serves .tau time kind tag (some (if s.tau.state = .cab then [2#8, 1#8] else [0#8])) s
      (s.inService time kind tag).reclaim := by
  have status : (bodyReclaim (s.inService time kind tag) { tau := s.tau }).status.bytes =
    if s.tau.state = .cab then [2#8, 1#8] else [0#8] := bodyReclaim_status rfl
  rw [← status]
  exact ⟨rfl, othersKept_tau s _ _ _ _, noticesOnly_answer (noticesOnly_posts _ _ _) _⟩

theorem State.reclaim_tau (s : State) : s.reclaim.tau = tauOutputs (bodyReclaim s { tau := s.tau }).tau := rfl

section
variable {s : State} {due : Micros}

theorem exec_transferTimerExpiry (h : s.tau.transfer = .running due) : exec .transferTimerExpiry s =
    .next ((s.beginAt (max s.now due)).tauTakes tauTransferExpired).finish := by
  simp only [exec, execTransferTimerExpiry, atExpiry_running h]

theorem exec_reclaimTimerExpiry (h : s.tau.reclaim = .running due) : exec .reclaimTimerExpiry s =
    .next ((s.beginAt (max s.now due)).tauTakes (tauReclaimExpired (s.beginAt (max s.now due)))).finish := by
  simp only [exec, execReclaimTimerExpiry, atExpiry_running h]

theorem exec_reclaimAuthority (h : LinkFree s) (dt : Micros) (tag : Byte) :
    exec (.reclaimAuthority dt tag) s = .next (s.inService (s.now + dt) 0x18#8 tag).reclaim.finish :=
  exec_own (c := .reclaimAuthority dt tag) rfl h rfl rfl

end

/-- Settles O44: the transfer timer ends the transfer in CAB; the reclaim timer and the request enter TO_CAB and then
make the completion test. -/
theorem authorityTimersAndReclaimComplete : Obligations.AuthorityTimersAndReclaimComplete := by
  intro s cab leaves
  refine ⟨fun due hdue hstate => ?transfer, fun due hdue hpanel hdrive => ?reclaim,
    fun dt tag hfree hout => ?request⟩
  case transfer =>
    refine ⟨_, exec_transferTimerExpiry hdue, State.tauCommit_acts s _ _, ?_⟩
    obtain h | h := hstate
    · have body := tauTransferExpired_toPanel (w := { tau := s.tau }) h
      rw [if_pos h]
      exact congrArg (fun w => tauOutputs w.tau) body
    · have body := tauTransferExpired_toCab (w := { tau := s.tau }) h
      rw [if_neg (by simp [h])]
      exact congrArg (fun w => tauOutputs w.tau) body
  case reclaim =>
    have toward : s.tau.state.towardPanel = true := by rw [hpanel]; rfl
    exact ⟨_, exec_reclaimTimerExpiry hdue, State.tauCommit_acts s _ _,
      tauReclaimExpired_leftPanel (s := s.beginAt (max s.now due)) (w := { tau := s.tau }) hdrive toward⟩
  case request =>
    let s' := s.inService (s.now + dt) 0x18#8 tag
    refine ⟨_, exec_reclaimAuthority hfree dt tag, State.reclaim_serves s _ _ _, fun hcab => ?_,
      fun toward hdrive => bodyReclaim_leftPanel (s := s') (w := { tau := s.tau }) hdrive toward,
      fun htoCab hidle => ?_⟩
    · have body := bodyReclaim_cab (s := s') (w := { tau := s.tau }) hcab
      exact (congrArg (fun w => tauOutputs w.tau) body).trans hout
    · have body := bodyReclaim_toCab (s := s') (w := { tau := s.tau }) htoCab hidle
      exact (congrArg (fun w => tauOutputs w.tau) body).trans hout

/-! ## A panel request in CAB (R139) -/

theorem panelDenial_eq (s : State) (t : Tau) : panelDenial s t =
    if s.rising .cabAuthReq = true then some 0
    else if driveCondition s = false then some 1
    else if s.effective .panelAuthority = true then some 2
    else if t.cuts ≠ [] then some 3 else none := by
  simp [panelDenial]

section
variable {s : State} (h : s.tau.state = .cab) (hedge : s.rising .panelAuthReq = true)
include h hedge

/-- A request denied is noticed, and changes nothing else. -/
theorem State.tauEvent_inputs_denied {reason : Nat} (hd : panelDenial s s.tau = some reason) :
    (s.tauEvent .inputs).tau = tauOutputs s.tau := by
  have body : tauInputs s { tau := s.tau } = { tau := s.tau, denied := some reason } := by
    rw [tauInputs_cab (w := { tau := s.tau }) h hedge, panelRequest_denied (w := { tau := s.tau }) h hd,
      releaseHold_not_panel (by simp [h]), complete_cab h]
  exact congrArg (fun w => tauOutputs w.tau) body

/-- A request granted moves to TO_PANEL, and the completion test of R140 is made at once. -/
theorem State.tauEvent_inputs_granted (hd : panelDenial s s.tau = none) :
    (s.tauEvent .inputs).tau = tauOutputs (complete s (TauWork.requested s { tau := s.tau })).tau := by
  have body : tauInputs s { tau := s.tau } = complete s (TauWork.requested s { tau := s.tau }) := by
    rw [tauInputs_cab (w := { tau := s.tau }) h hedge, panelRequest_granted (w := { tau := s.tau }) h hd,
      releaseHold_not_panel (by simp [TauWork.requested, TauWork.moveTo])]
  exact congrArg (fun w => tauOutputs w.tau) body

end

/-- An LKU publication that names PANEL_AUTHORITY is taken (R141). -/
theorem State.tauEvent_lockouts (s : State) {changed : List Target} (h : .panelAuthority ∈ changed) :
    s.tauEvent (.lockouts changed) = s.tauTakes (tauLockouts s) :=
  if_pos (List.contains_iff_mem.2 h)

/-- Settles O45: the look at the drive condition comes before every step that could move authority toward the panel,
and a grant needs the condition itself. -/
theorem panelAuthorityNeedsAnEngagedDrive : Obligations.PanelAuthorityNeedsAnEngagedDrive := by
  intro s
  refine ⟨fun e he toward => ?drive, fun hlocked changed hmem => ?lockout, fun d ops hop hnew => ?release,
    ?reclaimTimer, bodyReclaim_towardPanel, fun hstate => ?transferTimer, fun hcab hedge => ?request⟩
  case drive =>
    obtain rfl | rfl | ⟨ops, rfl⟩ | ⟨changed, rfl, hmem⟩ := he
    · exact tauInputs_driveCondition toward
    · exact tauDrives_driveCondition toward
    · exact (tauCuts_towardPanel toward).1
    · rw [State.tauEvent_lockouts s hmem] at toward
      exact (tauLockouts_towardPanel toward).1
  case lockout =>
    rw [State.tauEvent_lockouts s hmem, Bool.eq_false_iff]
    intro toward
    have free := (tauLockouts_towardPanel toward).2
    simp [hlocked] at free
  case release =>
    rw [Bool.eq_false_iff]
    intro toward
    have noRelease := (tauCuts_towardPanel toward).2
    simp [releasePosted_of_mem (post_mem_takeCuts hnew hop)] at noRelease
  case reclaimTimer => simp [State.tauTakes, tauReclaimExpired, tauOutputs]
  case transferTimer => exact congrArg (·.tau.state) (tauTransferExpired_toPanel (w := { tau := s.tau }) hstate)
  case request =>
    intro denial
    have hdenial : panelDenial s s.tau = denial := panelDenial_eq s s.tau
    refine ⟨hdenial, fun hd => ?denied, fun hd => ?granted⟩
    case denied =>
      obtain ⟨reason, hreason⟩ := Option.ne_none_iff_exists'.1 hd
      rw [State.tauEvent_inputs_denied hcab hedge (hdenial.trans hreason)]
      exact ⟨hcab, rfl⟩
    case granted =>
      rw [State.tauEvent_inputs_granted hcab hedge (hdenial.trans hd)]
      cases hidle : s.panelIdle && s.atIdle with
      | true => rw [complete_toPanel hidle rfl]; rfl
      | false =>
        rw [complete_not_idle hidle]
        exact ⟨rfl, rfl, rfl, rfl⟩

end Sys2Proof.Machine

end


section
/-! PROOFS. The Duty Recorder's bounds: each operation keeps them and lowers no accumulator. -/

namespace Sys2Proof.Machine

open Sys2Proof.Safety

/-! ## The bounds, and what grows within them (R148, R155, R159) -/

theorem saturate_le (top n : Nat) : saturate top n ≤ top := min_le_left _ _

/-- A value within its bound is not lowered by a sum that stops there. -/
theorem le_saturate_add {top n : Nat} (h : n ≤ top) (k : Nat) : n ≤ saturate top (n + k) :=
  le_min h (Nat.le_add_right n k)

/-- The largest value of each accumulator (R148). -/
def Accumulators.top : Accumulators := ⟨top32, top32, top32, top32, 65535, 65535⟩

theorem accumulatorsAtMost_refl (a : Accumulators) : AccumulatorsAtMost a a :=
  ⟨le_rfl, le_rfl, le_rfl, le_rfl, le_rfl, le_rfl⟩

theorem accumulatorsAtMost_trans {a b c : Accumulators} (h : AccumulatorsAtMost a b)
    (k : AccumulatorsAtMost b c) : AccumulatorsAtMost a c := by
  simp only [AccumulatorsAtMost] at *
  omega

/-- A sum lowers no accumulator and stops at the largest values (R148, R158). -/
theorem Accumulators.plus_within {a : Accumulators} (h : AccumulatorsAtMost a .top) (b : Accumulators) :
    AccumulatorsAtMost a (a.plus b) ∧ AccumulatorsAtMost (a.plus b) .top := by
  obtain ⟨main, aux, roll, water, engMain, engAux⟩ := h
  exact ⟨⟨le_saturate_add main _, le_saturate_add aux _, le_saturate_add roll _, le_saturate_add water _,
      le_saturate_add engMain _, le_saturate_add engAux _⟩,
    ⟨saturate_le _ _, saturate_le _ _, saturate_le _ _, saturate_le _ _, saturate_le _ _, saturate_le _ _⟩⟩

/-- `RecorderBounded` as a law of the unit alone. -/
structure Drc.Bounded (d : Drc) : Prop where
  acc : AccumulatorsAtMost d.acc .top
  queue : d.queue.length ≤ stagingCapacity
  lost : d.lostCount ≤ 65535
  failed : d.state = .failed → d.queue = [] ∧ d.syncTimer = .stopped

theorem recorderBounded_iff (s : State) : RecorderBounded s ↔ s.drc.Bounded := by
  constructor
  · rintro ⟨main, aux, roll, water, engMain, engAux, queue, lost, failed⟩
    exact ⟨⟨main, aux, roll, water, engMain, engAux⟩, queue, lost, failed⟩
  · rintro ⟨⟨main, aux, roll, water, engMain, engAux⟩, queue, lost, failed⟩
    exact ⟨main, aux, roll, water, engMain, engAux, queue, lost, failed⟩

theorem Drc.reset_bounded : Drc.reset.Bounded where
  acc := ⟨Nat.zero_le _, Nat.zero_le _, Nat.zero_le _, Nat.zero_le _, Nat.zero_le _, Nat.zero_le _⟩
  queue := Nat.zero_le _
  lost := Nat.zero_le _
  failed h := nomatch h

/-- The unit comes to stand within its bounds, with no accumulator lower than before. -/
structure Drc.Grows (d d' : Drc) : Prop where
  bounded : d'.Bounded
  acc : AccumulatorsAtMost d.acc d'.acc

theorem Drc.Bounded.refl {d : Drc} (h : d.Bounded) : d.Grows d := ⟨h, accumulatorsAtMost_refl _⟩

theorem Drc.Grows.trans {a b c : Drc} (h : a.Grows b) (k : b.Grows c) : a.Grows c :=
  ⟨k.bounded, accumulatorsAtMost_trans h.acc k.acc⟩

section
variable {d d' : Drc} (h : d.Bounded) (acc : d'.acc = d.acc)
include h acc

/-- Where the accumulators stand, the staging queue, lost_count and the SYNC timer are all there is to see to. -/
theorem Drc.Bounded.grows (queue : d'.queue.length ≤ stagingCapacity) (lost : d'.lostCount ≤ 65535)
    (failed : d'.state = .failed → d'.queue = [] ∧ d'.syncTimer = .stopped) : d.Grows d' :=
  ⟨⟨acc ▸ h.acc, queue, lost, failed⟩, acc ▸ accumulatorsAtMost_refl _⟩

/-- Nothing of what the bounds speak of changes. -/
theorem Drc.Bounded.grows_of_eq (queue : d'.queue = d.queue) (lost : d'.lostCount = d.lostCount)
    (state : d'.state = d.state) (sync : d'.syncTimer = d.syncTimer) : d.Grows d' :=
  h.grows acc (queue ▸ h.queue) (lost ▸ h.lost) (by rw [state, queue, sync]; exact h.failed)

end

/-! ## Accumulators (R148 to R151) -/

section
variable {d : Drc} (h : d.Bounded)
include h

theorem Drc.accumulate_grows {a : Accumulators} (low : AccumulatorsAtMost d.acc a)
    (high : AccumulatorsAtMost a .top) : d.Grows (d.accumulate a) :=
  ⟨⟨high, h.queue, h.lost, h.failed⟩, low⟩

theorem Drc.addRun_grows (drive : Drive) : d.Grows (d.addRun drive) := by
  obtain ⟨main, aux, roll, water, engMain, engAux⟩ := h.acc
  have carried (r : PerDrive Nat) : d.Grows { d with runRemainder := r } := h.grows_of_eq rfl rfl rfl rfl rfl
  unfold Drc.addRun
  dsimp only
  split
  · exact carried _
  · cases drive with
    | main =>
      exact (carried _).trans (Drc.accumulate_grows (carried _).bounded
        ⟨le_saturate_add main 1, le_rfl, le_rfl, le_rfl, le_rfl, le_rfl⟩
        ⟨saturate_le _ _, aux, roll, water, engMain, engAux⟩)
    | aux =>
      exact (carried _).trans (Drc.accumulate_grows (carried _).bounded
        ⟨le_rfl, le_saturate_add aux 1, le_rfl, le_rfl, le_rfl, le_rfl⟩
        ⟨main, saturate_le _ _, roll, water, engMain, engAux⟩)

theorem drcRun_grows (s : State) (drive : Drive) : d.Grows (drcRun s drive d) := by
  unfold drcRun
  split
  · exact Drc.addRun_grows h drive
  · exact h.refl

theorem drcDistance_grows (s : State) : d.Grows (drcDistance s d) := by
  obtain ⟨main, aux, roll, water, engMain, engAux⟩ := h.acc
  have carried (r : Nat) : d.Grows { d with distRemainder := r } := h.grows_of_eq rfl rfl rfl rfl rfl
  unfold drcDistance
  split
  · exact (carried _).trans (Drc.accumulate_grows (carried _).bounded
      ⟨le_rfl, le_rfl, le_saturate_add roll _, le_rfl, le_rfl, le_rfl⟩
      ⟨main, aux, saturate_le _ _, water, engMain, engAux⟩)
  · exact h.refl

theorem drcDraw_grows (m v : Int) : d.Grows (drcDraw m v d) := by
  obtain ⟨main, aux, roll, water, engMain, engAux⟩ := h.acc
  have marked : d.Grows { d with lowWater := some v } := h.grows_of_eq rfl rfl rfl rfl rfl
  unfold drcDraw
  split
  · exact marked.trans (Drc.accumulate_grows marked.bounded
      ⟨le_rfl, le_rfl, le_rfl, le_saturate_add water _, le_rfl, le_rfl⟩
      ⟨main, aux, roll, saturate_le _ _, engMain, engAux⟩)
  · exact h.refl

theorem drcWater_grows (s : State) : d.Grows (drcWater s d) := by
  have known (k : Bool) : d.Grows { d with t0Known := k } := h.grows_of_eq rfl rfl rfl rfl rfl
  unfold drcWater
  dsimp only
  split
  · exact h.grows_of_eq rfl rfl rfl rfl rfl
  · split
    · exact (known _).trans (drcDraw_grows (known _).bounded _ _)
    · exact known _

theorem Drc.countEngagement_grows (body : RecordBody) : d.Grows (d.countEngagement body) := by
  obtain ⟨main, aux, roll, water, engMain, engAux⟩ := h.acc
  unfold Drc.countEngagement
  split
  case h_1 =>
    exact Drc.accumulate_grows h ⟨le_rfl, le_rfl, le_rfl, le_rfl, le_saturate_add engMain 1, le_rfl⟩
      ⟨main, aux, roll, water, saturate_le _ _, engAux⟩
  case h_2 =>
    exact Drc.accumulate_grows h ⟨le_rfl, le_rfl, le_rfl, le_rfl, le_rfl, le_saturate_add engAux 1⟩
      ⟨main, aux, roll, water, engMain, saturate_le _ _⟩
  case h_3 => exact h.refl

/-! ## Staging (R155, R156) -/

theorem Drc.loseOne_grows : d.Grows d.loseOne := h.grows rfl h.queue (saturate_le _ _) h.failed

theorem Drc.stage_grows (r : Record) : d.Grows (d.stage r) := by
  unfold Drc.stage
  split
  · exact Drc.loseOne_grows h
  · rename_i running
    split
    · rename_i room
      exact h.grows rfl (by simpa using room) h.lost fun failed => absurd failed running
    · exact Drc.loseOne_grows h

end

/-- What is left of a list out of which a record is taken. -/
theorem length_of_takeLast {p : Record → Bool} :
    ∀ {rs left : List Record} {x : Record}, takeLast p rs = some (x, left) → left.length + 1 = rs.length
  | [], _, _, h => nomatch h
  | r :: rest, left, x, h => by
    unfold takeLast at h
    cases ht : takeLast p rest with
    | some y =>
      obtain ⟨y, ys⟩ := y
      have ih := length_of_takeLast ht
      simp only [ht, Option.some.injEq, Prod.mk.injEq] at h
      obtain ⟨-, rfl⟩ := h
      simp [ih]
    | none =>
      simp only [ht] at h
      split at h
      · cases h
        rfl
      · cases h

/-- Any list but the empty one gives up its last element. -/
theorem takeLast_true_eq_none {rs : List Record} (h : takeLast (fun _ => true) rs = none) : rs = [] := by
  cases rs with
  | nil => rfl
  | cons r rest =>
    unfold takeLast at h
    cases ht : takeLast (fun _ => true) rest <;> simp [ht] at h

/-- Room is made by taking one record out (R156). -/
theorem length_makeRoom {rs : List Record} (h : rs ≠ []) : (makeRoom rs).1.length + 1 = rs.length := by
  unfold makeRoom
  cases hother : takeLast (fun r => !r.body.isLost) rs with
  | some x => exact length_of_takeLast hother
  | none =>
    cases hlast : takeLast (fun _ => true) rs with
    | none => exact absurd (takeLast_true_eq_none hlast) h
    | some x =>
      obtain ⟨⟨time, unsynced, body⟩, left⟩ := x
      cases body <;> exact length_of_takeLast hlast

/-- The record under write is one of the queue's, if it is not a cadence SYNC. -/
theorem Drc.underWrite_le (d : Drc) : d.underWrite ≤ 1 := by
  unfold Drc.underWrite
  split
  · split <;> decide
  · decide

theorem Drc.length_waiting (d : Drc) : (d.queue.take d.underWrite).length + d.waiting.length = d.queue.length := by
  rw [← List.length_append, Drc.waiting, List.take_append_drop]

section
variable {d : Drc} (h : d.Bounded) (s : State)
include h

/-- A SYNC takes the place of one that waits, a free place, or that of a record lost for it (R156). -/
theorem Drc.placeSync_grows (c : SyncCause) (mark : Bool) : d.Grows (d.placeSync s c mark) := by
  have total := d.length_waiting
  have queue := h.queue
  unfold Drc.placeSync
  dsimp only
  split
  case h_1 => exact Drc.loseOne_grows h
  case h_2 found running =>
    have hlt := (List.length_filter_lt_length_iff_exists (p := fun x : Record => !x.body.isSync)).2
      ⟨_, List.mem_of_find?_eq_some found, by simpa using List.find?_some found⟩
    refine h.grows rfl ?_ h.lost fun failed => absurd failed running
    simp only [List.length_append, List.length_cons]
    omega
  case h_3 running =>
    split
    case isTrue room =>
      refine h.grows rfl ?_ h.lost fun failed => absurd failed running
      simp only [List.length_append, List.length_cons]
      omega
    case isFalse full =>
      have waits : d.waiting ≠ [] := fun hempty => by
        have front := List.length_take_le d.underWrite d.queue
        have := d.underWrite_le
        simp only [hempty, List.length_nil, stagingCapacity] at total full
        omega
      have room := length_makeRoom waits
      refine h.grows rfl ?_ (saturate_le _ _) fun failed => absurd failed running
      simp only [List.length_append, List.length_cons]
      omega

end

section
variable {w : DrcWork} (h : w.drc.Bounded)
include h

theorem drcGauges_grows (s : State) : w.drc.Grows (drcGauges s w).drc := by
  have main := drcRun_grows h s .main
  have aux := drcRun_grows main.bounded s .aux
  have distance := drcDistance_grows aux.bounded s
  exact ((main.trans aux).trans distance).trans (drcWater_grows distance.bounded s)

theorem drcRecords_grows (s : State) (bodies : List RecordBody) : w.drc.Grows (drcRecords s bodies w).drc := by
  unfold drcRecords
  dsimp only
  generalize w.drc = d at h
  induction bodies generalizing d with
  | nil => exact h.refl
  | cons body rest ih =>
    have counted := Drc.countEngagement_grows h body
    have staged := counted.trans (Drc.stage_grows counted.bounded (s.stamp body))
    exact staged.trans (ih _ staged.bounded)

theorem drcLevels_grows (s : State) (leftOpen : Bool) : w.drc.Grows (drcLevels s leftOpen w).drc := by
  unfold drcLevels
  split
  · exact h.grows_of_eq rfl rfl rfl rfl rfl
  · exact h.refl

theorem drcConf_grows (before after : Conf) : w.drc.Grows (drcConf before after w).drc := by
  unfold drcConf
  split
  · exact h.grows_of_eq rfl rfl rfl rfl rfl
  · exact h.refl

theorem drcSupply_grows (s : State) (before after : SupplyState) : w.drc.Grows (drcSupply s before after w).drc := by
  unfold drcSupply
  split
  · exact Drc.placeSync_grows h s _ _
  · exact h.refl

/-- The SYNC timer does not run in FAILED, so its expiry finds another state (R159). -/
theorem drcSyncExpired_grows (s : State) (running : w.drc.state ≠ .failed) :
    w.drc.Grows (drcSyncExpired s w).drc := by
  have restarted : w.drc.Grows { w.drc with syncTimer := .started s.now syncPeriod } :=
    h.grows rfl h.queue h.lost fun failed => absurd failed running
  unfold drcSyncExpired
  dsimp only
  split
  · exact restarted.trans (Drc.stage_grows restarted.bounded _)
  · exact restarted

/-! ## The ring (R153, R157, R159) -/

theorem enterFailed_grows (reason : Nat) : w.drc.Grows (enterFailed reason w).drc :=
  h.grows rfl (Nat.zero_le _) (saturate_le _ _) fun _ => ⟨rfl, rfl⟩

theorem leaveRing_grows (rw : RingWrite) (oldest : Option Nat) : w.drc.Grows (leaveRing rw oldest w).drc := by
  have shorter : (if rw.fromQueue then w.drc.queue.drop 1 else w.drc.queue).length ≤ w.drc.queue.length := by
    split
    · simp
    · exact le_rfl
  have left (next : Option Nat) : w.drc.Grows { w.drc with
      queue := if rw.fromQueue then w.drc.queue.drop 1 else w.drc.queue
      write := none
      head := w.drc.head.map nextSlot
      nextSeq := next
      oldest := oldest } :=
    h.grows rfl (shorter.trans h.queue) h.lost fun failed => by
      obtain ⟨queue, sync⟩ := h.failed failed
      exact ⟨by simp [queue], sync⟩
  unfold leaveRing
  dsimp only
  split
  · exact (left none).trans (enterFailed_grows (w := { w with drc := _ }) (left none).bounded 1)
  · exact left _

theorem rewrite_grows (rw : RingWrite) (outcome : WriteEnd) : w.drc.Grows (rewrite rw outcome w).drc :=
  h.grows_of_eq rfl rfl rfl rfl rfl

theorem drcWriteEnd_grows (outcome : WriteEnd) : w.drc.Grows (drcWriteEnd outcome w).drc := by
  unfold drcWriteEnd
  split
  case h_1 => exact h.refl
  case h_2 =>
    dsimp only
    split
    case h_1 => exact leaveRing_grows h _ _
    case h_2 =>
      split
      · have lost := Drc.loseOne_grows h
        exact lost.trans (leaveRing_grows (w := { w with drc := w.drc.loseOne, news := _ }) lost.bounded _ _)
      · exact rewrite_grows h _ _
    case h_3 =>
      split
      · exact enterFailed_grows h 0
      · exact rewrite_grows h _ _

/-! ## Recovery and READ RECORDS (R158, R160) -/

theorem finishRecovery_grows (sc : RingScan) : w.drc.Grows (finishRecovery sc w).drc := by
  have scanned : w.drc.Grows { w.drc with scan := sc } := h.grows_of_eq rfl rfl rfl rfl rfl
  unfold finishRecovery
  dsimp only
  split
  · exact scanned.trans (enterFailed_grows (w := { w with drc := _ }) scanned.bounded 1)
  · cases sc.sync with
    | none => exact ⟨⟨h.acc, h.queue, h.lost, nofun⟩, accumulatorsAtMost_refl _⟩
    | some x =>
      obtain ⟨low, high⟩ := Accumulators.plus_within h.acc x.2
      exact ⟨⟨high, h.queue, h.lost, nofun⟩, low⟩

theorem drcScanEnd_grows (outcome : SlotEnd) : w.drc.Grows (drcScanEnd outcome w).drc := by
  unfold drcScanEnd
  dsimp only
  split
  case h_1 =>
    split
    · exact enterFailed_grows h 0
    · exact h.grows_of_eq rfl rfl rfl rfl rfl
  case h_2 =>
    split
    · exact h.grows_of_eq rfl rfl rfl rfl rfl
    · exact finishRecovery_grows h _

theorem drcReadEnd_grows (outcome : SlotEnd) (r : RingRead) : w.drc.Grows (drcReadEnd outcome r w).drc := by
  unfold drcReadEnd
  dsimp only
  split
  case h_1 =>
    split
    · exact enterFailed_grows h 0
    · exact h.grows_of_eq rfl rfl rfl rfl rfl
  case h_2 => split <;> exact h.grows_of_eq rfl rfl rfl rfl rfl

theorem drcSlotReadEnd_grows (outcome : SlotEnd) : w.drc.Grows (drcSlotReadEnd outcome w).drc := by
  unfold drcSlotReadEnd
  split
  case h_1 => exact drcScanEnd_grows h outcome
  case h_2 => exact drcReadEnd_grows h outcome _
  case h_3 => exact h.refl

/-! ## Requests (R160 to R163) -/

theorem bodyReadRecords_grows (sequence count : Nat) : w.drc.Grows (bodyReadRecords sequence count w).drc := by
  unfold bodyReadRecords
  split
  · exact h.refl
  · split
    case h_3 => exact h.grows_of_eq rfl rfl rfl rfl rfl
    all_goals exact h.refl

theorem bodyMark_grows (s : State) (text : List Byte) : w.drc.Grows (bodyMark s text w).drc := by
  unfold bodyMark
  split
  · exact h.refl
  split
  · exact h.refl
  · exact Drc.stage_grows h _

theorem bodySetTime_grows (s : State) (seconds : Nat) : w.drc.Grows (bodySetTime s seconds w).drc := by
  unfold bodySetTime
  split
  · exact h.refl
  · exact h.grows_of_eq rfl rfl rfl rfl rfl

/-! ## The end of an event (R154, R155, R157, R160) -/

theorem addLost_grows (s : State) : w.drc.Grows (addLost s w).drc := by
  unfold addLost
  dsimp only
  split
  case isTrue room =>
    obtain ⟨-, room, running⟩ := room
    exact h.grows rfl (by simpa using room) (Nat.zero_le _) fun failed => absurd failed running
  case isFalse => exact h.refl

theorem issueRead_grows : w.drc.Grows (issueRead w).drc := by
  unfold issueRead
  dsimp only
  split
  case h_1 =>
    split
    · exact h.refl
    split <;> exact h.grows_of_eq rfl rfl rfl rfl rfl
  case h_2 => exact h.refl

theorem startWrite_grows (s : State) (n : Nat) (r : Record) (fromQueue : Bool) (running : w.drc.state ≠ .failed) :
    w.drc.Grows (startWrite s n r fromQueue w).drc := by
  unfold startWrite
  dsimp only
  split
  · exact h.grows rfl h.queue h.lost fun failed => absurd failed running
  · exact h.grows_of_eq rfl rfl rfl rfl rfl

theorem beginWrite_grows (s : State) : w.drc.Grows (beginWrite s w).drc := by
  unfold beginWrite
  dsimp only
  split
  case h_1 state _ _ _ _ =>
    have running : w.drc.state ≠ .failed := by simp [state]
    split <;> exact startWrite_grows h s _ _ _ running
  case h_2 => exact h.refl

theorem drcEnd_grows (s : State) : w.drc.Grows (drcEnd s w).drc := by
  have lost := addLost_grows h s
  have issued := issueRead_grows lost.bounded
  exact (lost.trans issued).trans (beginWrite_grows issued.bounded s)

end

/-! ## Every event of the unit -/

/-- What the Duty Recorder does in an event: the publications it hears, the SYNC timer, the ends of the port's
operations and its requests (R148 to R163). -/
inductive DrcBody (s : State) : (DrcWork → DrcWork) → Prop where
  | gauges : DrcBody s (drcGauges s)
  | records (bodies : List RecordBody) : DrcBody s (drcRecords s bodies)
  | drives : DrcBody s id
  | levels (leftOpen : Bool) : DrcBody s (drcLevels s leftOpen)
  | supply (before after : SupplyState) : DrcBody s (drcSupply s before after)
  | conf (before after : Conf) : DrcBody s (drcConf before after)
  | restart : DrcBody s (drcRestart s)
  | syncExpired (running : s.drc.state ≠ .failed) : DrcBody s (drcSyncExpired s)
  | writeEnd (outcome : WriteEnd) : DrcBody s (drcWriteEnd outcome)
  | slotReadEnd (outcome : SlotEnd) : DrcBody s (drcSlotReadEnd outcome)
  | readRecords (sequence count : Nat) : DrcBody s (bodyReadRecords sequence count)
  | mark (text : List Byte) : DrcBody s (bodyMark s text)
  | setTime (seconds : Nat) : DrcBody s (bodySetTime s seconds)

/-- A publication is passed over by the recorder, or taken with one of its bodies. -/
theorem State.drcEvent_body (s : State) (e : Event) :
    s.drcEvent e = s ∨ ∃ body, DrcBody s body ∧ s.drcEvent e = s.drcTakes body := by
  cases e with
  | gauges => exact .inr ⟨_, .gauges, rfl⟩
  | records bodies => exact .inr ⟨_, .records bodies, rfl⟩
  | drives => exact .inr ⟨_, .drives, rfl⟩
  | supply before after => exact .inr ⟨_, .supply before after, rfl⟩
  | conf before after => exact .inr ⟨_, .conf before after, rfl⟩
  | restartAsked => exact .inr ⟨_, .restart, rfl⟩
  | levels _ valveChanged leftOpen =>
    cases valveChanged with
    | true => exact .inr ⟨_, .levels leftOpen, rfl⟩
    | false => exact .inl rfl
  | _ => exact .inl rfl

theorem DrcBody.grows {s : State} {body : DrcWork → DrcWork} (hbody : DrcBody s body) (h : s.drc.Bounded) :
    s.drc.Grows (body { drc := s.drc }).drc := by
  have h : ({ drc := s.drc } : DrcWork).drc.Bounded := h
  cases hbody with
  | gauges => exact drcGauges_grows h s
  | records bodies => exact drcRecords_grows h s bodies
  | drives => exact h.refl
  | levels leftOpen => exact drcLevels_grows h s leftOpen
  | supply before after => exact drcSupply_grows h s before after
  | conf before after => exact drcConf_grows h before after
  | restart => exact Drc.placeSync_grows h s _ _
  | syncExpired running => exact drcSyncExpired_grows h s running
  | writeEnd outcome => exact drcWriteEnd_grows h outcome
  | slotReadEnd outcome => exact drcSlotReadEnd_grows h outcome
  | readRecords sequence count => exact bodyReadRecords_grows h sequence count
  | mark text => exact bodyMark_grows h s text
  | setTime seconds => exact bodySetTime_grows h s seconds

theorem State.drcTakes_grows {s : State} {body : DrcWork → DrcWork} (hbody : DrcBody s body) (h : s.drc.Bounded) :
    s.drc.Grows (s.drcTakes body).drc := by
  have taken := hbody.grows h
  exact taken.trans (drcEnd_grows taken.bounded s)

end Sys2Proof.Machine

end


section
/-! PROOFS. What every command keeps of the Duty Recorder. -/

namespace Sys2Proof.Machine

open Sys2Proof.Safety

/-! ## A restart whose reply has not been sent (R171) -/

/-- No restart is pending whose reply has been sent, so none takes place at the end of the command (R171). -/
def State.Unsent (s : State) : Prop := ∀ r, s.lnk.restart = some r → r.replySent = false

theorem State.Unsent.of_eq {s t : State} (h : t.lnk.restart = s.lnk.restart) (hs : s.Unsent) : t.Unsent :=
  fun r hr => hs r (h ▸ hr)

/-- Notices handed over leave a pending restart as it is. -/
@[simp] theorem Lnk.posts_restart (news : List News) (time : Nat) (l : Lnk) :
    (news.foldl (fun l n => l.post time n) l).restart = l.restart := by
  obtain ⟨-, -, -, -, restart, -⟩ := Lnk.posts_frame news time l
  exact restart

/-- So does an answer to the request in service. -/
@[simp] theorem Lnk.answer_restart (l : Lnk) (body : List Byte) : (l.answer body).restart = l.restart := by
  unfold Lnk.answer
  split <;> rfl

/-- So does the removal of notices. -/
@[simp] theorem Lnk.keep_restart (l : Lnk) (time : Nat) (kept : List Notice) :
    (l.keep time kept).restart = l.restart := by
  unfold Lnk.keep
  split
  · unfold Lnk.afterRemoval
    dsimp only
    split <;> rfl
  · rfl

/-! ## What reaches the recorder

The Duty Recorder changes by its own events alone. A law that speaks of it and of whether a restart may take place, and
that those events keep, is kept by every command that begins no restart of its own. -/

/-- A law of the Duty Recorder that every event keeps. -/
structure KeptByRecorder (P : State → Prop) : Prop where
  still : ∀ {s t : State}, P s → t.drc = s.drc → (s.Unsent → t.Unsent) → P t
  takes : ∀ {s : State} {body : DrcWork → DrcWork}, DrcBody s body → P s → P (s.drcTakes body)
  restart : ∀ {s : State}, P s → ¬ s.Unsent → ∀ high faults schedule pending,
    P (.afterReset high faults schedule pending)

namespace KeptByRecorder

variable {P : State → Prop} (law : KeptByRecorder P) {s : State} (h : P s)
include law h

/-- The recorder and a pending restart stand as they were. -/
theorem same {t : State} (drc : t.drc = s.drc) (restart : t.lnk.restart = s.lnk.restart) : P t :=
  law.still h drc (.of_eq restart)

theorem drcEvent (e : Event) : P (s.drcEvent e) := by
  obtain he | ⟨body, hbody, he⟩ := s.drcEvent_body e <;> rw [he]
  · exact h
  · exact law.takes hbody h

theorem lnkEvent (e : Event) : P (s.lnkEvent e) := by
  obtain he | ⟨body, he⟩ | ⟨r, hr, he⟩ := s.lnkEvent_cases e <;> rw [he]
  · exact h
  · exact same law h rfl (by simp)
  · refine law.still h rfl fun unsent r' hr' => ?_
    cases hr'
    exact unsent r hr

/-! The other blocks' events. -/

theorem lbuTakes (b : Lbu) (r : List RecordBody) : P (s.lbuTakes b r) := same law h rfl (by simp)

theorem deuCommit (w : DeuWork) : P (s.deuCommit w) := same law h rfl (by simp)

theorem ppuCommit (w : PpuWork) : P (s.ppuCommit w) := same law h rfl (by simp)

theorem lkuCommit (w : LkuWork) : P (s.lkuCommit w) := same law h rfl (by simp)

theorem tauCommit (w : TauWork) : P (s.tauCommit w) := same law h rfl (by simp)

theorem pfuCommit (w : PfuWork) : P (s.pfuCommit w) := same law h rfl (by simp)

theorem answer (body : List Byte) : P (s.answer body) := same law h rfl (by simp)

/-- A publication taken by any block. -/
theorem deliver (b : Block) (e : Event) : P (s.deliver b e) := by
  cases b with
  | drc => exact drcEvent law h e
  | lnk => exact lnkEvent law h e
  | isu | tgu => cases e <;> exact same law h rfl rfl
  | lbu =>
    obtain he | ⟨b, r, he⟩ := s.lbuEvent_cases e <;> rw [State.deliver, he]
    exacts [h, lbuTakes law h b r]
  | deu =>
    obtain he | ⟨w, he⟩ := s.deuEvent_cases e <;> rw [State.deliver, he]
    exacts [h, deuCommit law h w]
  | ppu =>
    obtain he | ⟨w, he⟩ := s.ppuEvent_cases e <;> rw [State.deliver, he]
    exacts [h, ppuCommit law h w]
  | lku =>
    obtain he | ⟨w, he⟩ := s.lkuEvent_cases e <;> rw [State.deliver, he]
    exacts [h, lkuCommit law h w]
  | tau =>
    obtain he | ⟨w, he⟩ := s.tauEvent_cases e <;> rw [State.deliver, he]
    exacts [h, tauCommit law h w]
  | pfu =>
    obtain he | he := s.pfuEvent_cases e <;> rw [State.deliver, he]
    exacts [h, pfuCommit law h _]

theorem finish : P s.finish := by
  have settled : P (settle Config.settleBound s) :=
    settle_keeps_all P (fun _ ht => same law ht rfl rfl)
      (fun t b e left ht => deliver law (s := { t with agenda := left, schedule := t.schedule.drop 1 })
        (same law ht rfl rfl) b e) _ s h
  rw [State.finish]
  obtain hr | ⟨due, hr⟩ := State.restartIfDue_cases (settle Config.settleBound s) <;> rw [hr]
  · exact settled
  · exact law.restart settled (fun unsent => nomatch unsent _ due) _ _ _ _

/-! Requests. -/

theorem onDrive (b : Byte) {f : Drive → State} (hf : ∀ d, P (f d)) : P (s.onDrive b f) := by
  unfold State.onDrive
  split
  · exact hf _
  · exact answer law h _

theorem clearFill : P s.clearFill := by
  unfold State.clearFill
  split
  · exact answer law (lbuTakes law h _ _) _
  · exact answer law h _

theorem getTank (tank : Nat) : P (s.getTank tank) := by
  unfold State.getTank
  split <;> exact answer law h _

theorem keep (l : Lnk) (hl : l.restart = s.lnk.restart) (kept : List Notice) :
    P { s with lnk := l.keep s.seconds kept } :=
  same law h rfl (by simpa using hl)

theorem setMask (mask : BitVec 16) : P (s.setMask mask) := by
  unfold State.setMask
  split
  · exact answer law (keep law h { s.lnk with mask := mask } rfl _) _
  · exact answer law h _

/-- A restart that is granted has its reply still to be sent (R171). -/
theorem requestRestart : P s.requestRestart := by
  unfold State.requestRestart
  split
  · exact answer law h _
  split
  · exact answer law h _
  · refine law.still h rfl fun _ r hr => ?_
    simp only [State.answerStatus_lnk, State.emit_lnk, State.notify_lnk, Lnk.answer_restart, Lnk.posts_restart,
      Option.some.injEq] at hr
    rw [← hr]

/-- A request passed to its owner: the Duty Recorder, the Link Unit for a restart, or one that the law does not read. -/
theorem own (kind : Nat) (b : List Byte) : P (s.own kind b) := by
  unfold State.own
  split
  case h_3 => exact getTank law h _
  case h_5 => exact setMask law h _
  case h_4 => exact answer law (keep law h s.lnk rfl _) _
  case h_6 | h_7 => exact onDrive law h _ fun d => answer law (deuCommit law h _) _
  case h_8 => exact answer law (tauCommit law h _) _
  case h_9 => exact answer law (ppuCommit law h _) _
  case h_10 => exact clearFill law h
  case h_11 | h_12 | h_13 => exact answer law (lkuCommit law h _) _
  case h_15 => exact law.takes (.readRecords _ _) h
  case h_17 => exact law.takes (.mark _) h
  case h_18 => exact law.takes (.setTime _) h
  case h_19 | h_20 | h_21 | h_22 => exact pfuCommit law h _
  case h_23 => exact requestRestart law h
  case h_24 => exact h
  all_goals exact answer law h _

theorem serve (f : Frame) : P (s.serve f) := by
  unfold State.serve
  dsimp only
  have inService : P { s with lnk := { s.lnk with service := some ⟨f.kind, f.tag, none⟩ } } := same law h rfl rfl
  split
  · exact answer law inService _
  split
  · exact answer law inService _
  · exact own law inService _ _

theorem offerFrame (f : Frame) : P (s.offerFrame f) := by
  unfold State.offerFrame
  split
  · exact serve law h f
  · split <;> exact same law h rfl rfl

/-- The reply of a request has been sent; that of a restart begins it once the recorder is ready (R167, R171). -/
theorem replySent (hsent : ∀ {t : State}, t.drc = s.drc → s.lnk.restart ≠ none → P t) : P s.replySent := by
  unfold State.replySent
  split
  · split
    case h_1 hr => exact hsent rfl (by simp [hr])
    case h_2 =>
      refine serve law ?_ _
      exact same law h rfl rfl
    case h_3 => exact same law h rfl rfl
  · exact h

theorem receive (b : Byte) (framingError : Bool) : P (s.receive b framingError) := by
  unfold State.receive
  dsimp only
  split
  · split
    · exact same law h rfl rfl
    · exact h
  split
  · exact same law h rfl rfl
  unfold State.assemble
  dsimp only
  split
  · exact same law h rfl rfl
  split
  · exact same law h rfl rfl
  split
  · refine offerFrame law ?_ _
    exact same law h rfl rfl
  · exact same law h rfl rfl

/-! The ends of the port's operations. -/

theorem slotWriteEnded (outcome : WriteEnd) : P (s.slotWriteEnded outcome) := by
  unfold State.slotWriteEnded
  split
  · exact law.takes (.writeEnd outcome) (same law h rfl rfl)
  · exact h

theorem slotReadEnded (outcome : SlotEnd) : P (s.slotReadEnded outcome) := by
  unfold State.slotReadEnded
  split
  · exact law.takes (.slotReadEnd outcome) (same law h rfl rfl)
  · exact h

theorem pageReadEnded (outcome : PageEnd) : P (s.pageReadEnded outcome) := by
  unfold State.pageReadEnded
  split
  · exact pfuCommit law (s := s.portFreed) (same law h rfl rfl) _
  · exact h

theorem pageWriteEnded (outcome : WriteEnd) : P (s.pageWriteEnded outcome) := by
  unfold State.pageWriteEnded
  split
  · exact pfuCommit law (s := s.portFreed) (same law h rfl rfl) _
  · exact h

/-! Commands. -/

theorem scanned (codes : List (BitVec 12)) (samples : BitVec 12) : P (s.isuScanned codes samples) :=
  same law h rfl (by simp)

theorem cycled : P s.tguCycled := same law h rfl (by simp)

/-- A command that is no reset, but for the SYNC timer's expiry, which is the recorder's own, and REPLY_SENT, which may
begin a restart. -/
theorem ownEffect {c : Instr} (hc : isReset c = false) (hsync : c ≠ .syncTimerExpiry)
    (hsent : ∀ {t : State}, t.drc = s.drc → s.lnk.restart ≠ none → P t) : P (Machine.ownEffect c s) := by
  cases c with
  | powerOnReset | pinReset => cases hc
  | syncTimerExpiry => exact absurd rfl hsync
  | halfPageWriteEnd _ outcome => exact slotWriteEnded law h outcome
  | slotReadEnd _ outcome => exact slotReadEnded law h outcome
  | pageReadEnd _ outcome => exact pageReadEnded law h outcome
  | pageWriteEnd _ outcome => exact pageWriteEnded law h outcome
  | hlrxByte _ b framingError => exact receive law h b framingError
  | replySent => exact replySent law h hsent
  | scan => exact scanned law h _ _
  | gaugeCycle => exact cycled law h
  | recoveryTimerExpiry => exact pfuCommit law h _
  | recloseTimerExpiry | lowPressureTimerExpiry | noRiseTimerExpiry => exact lbuTakes law h _ _
  | permissiveTimerExpiry | confirmTimerExpiry | retryOffExpiry | restoreTimerExpiry | idleTimerExpiry
  | positionTimerExpiry | overspeedTimerExpiry | slipTimerExpiry | stallTimerExpiry => exact deuCommit law h _
  | persistTimerExpiry | dryTimerExpiry | dryRunClearExpiry => exact ppuCommit law h _
  | overrideTimerExpiry => exact lkuCommit law h _
  | transferTimerExpiry | reclaimTimerExpiry => exact tauCommit law h _
  | pulse | holdTimerExpiry | stillTimerExpiry | gapTimerExpiry => exact same law h rfl rfl
  | _ => exact offerFrame law h _

/-- The SYNC timer's expiry, which finds the recorder in a state where the timer runs (R159). -/
theorem syncTimerExpiry (running : ∀ due, s.drc.syncTimer = .running due → s.drc.state ≠ .failed) {t : State}
    (ht : Machine.exec .syncTimerExpiry s = .next t) : P t := by
  obtain he | ⟨due, hdue, he⟩ := atExpiry_cases s.drc.syncTimer (fun s => s.drcTakes (drcSyncExpired s)) s <;>
    cases he.symm.trans ht
  · exact h
  · exact finish law (law.takes (s := s.beginAt (max s.now due)) (.syncExpired (running due hdue))
      (same law h rfl rfl))

theorem exec {c : Instr} {t : State} (hc : isReset c = false)
    (running : ∀ due, s.drc.syncTimer = .running due → s.drc.state ≠ .failed)
    (hsent : ∀ {t : State}, t.drc = s.drc → s.lnk.restart ≠ none → P t)
    (ht : Machine.exec c s = .next t) : P t := by
  by_cases hsync : c = .syncTimerExpiry
  · subst hsync
    exact syncTimerExpiry law h running ht
  · obtain he | ⟨hreset, -⟩ | ⟨-, time, -, he⟩ := exec_cases c s
    · cases he.symm.trans ht
      exact h
    · simp [hc] at hreset
    · cases he.symm.trans ht
      exact finish law (ownEffect law (s := s.beginAt time) (same law h rfl rfl) hc hsync hsent)

end KeptByRecorder

/-! ## The laws -/

theorem recorderBounded_kept : KeptByRecorder RecorderBounded where
  still h hdrc _ := by
    rw [recorderBounded_iff] at h ⊢
    rwa [hdrc]
  takes hbody h := by
    rw [recorderBounded_iff] at h ⊢
    exact (State.drcTakes_grows hbody h).bounded
  restart _ _ _ _ _ _ := (recorderBounded_iff _).2 Drc.reset_bounded

/-- The bounds, and accumulators no lower than those given, while no restart may take place. -/
def GrownFrom (a : Accumulators) (s : State) : Prop :=
  s.drc.Bounded ∧ AccumulatorsAtMost a s.drc.acc ∧ s.Unsent

theorem State.drcTakes_unsent {s : State} (h : s.Unsent) (body : DrcWork → DrcWork) : (s.drcTakes body).Unsent :=
  .of_eq (by simp [State.drcTakes]) h

theorem grownFrom_kept (a : Accumulators) : KeptByRecorder (GrownFrom a) where
  still := by
    intro s t ⟨bounded, acc, unsent⟩ hdrc ht
    exact ⟨hdrc ▸ bounded, hdrc ▸ acc, ht unsent⟩
  takes := by
    intro s body hbody ⟨bounded, acc, unsent⟩
    have grows := State.drcTakes_grows hbody bounded
    exact ⟨grows.bounded, accumulatorsAtMost_trans acc grows.acc, State.drcTakes_unsent unsent body⟩
  restart := by
    intro s ⟨_, _, unsent⟩ sent
    exact absurd unsent sent

/-- In FAILED the SYNC timer is stopped (R159). -/
theorem Drc.Bounded.not_failed_of_running {d : Drc} (h : d.Bounded) (due : Micros)
    (hdue : d.syncTimer = .running due) : d.state ≠ .failed := fun failed => by
  obtain ⟨-, sync⟩ := h.failed failed
  simp [sync] at hdue

/-- Every command keeps the recorder within its bounds. -/
theorem exec_recorderBounded {c : Instr} {s t : State} (h : RecorderBounded s) (ht : exec c s = .next t) :
    RecorderBounded t := by
  have bounded := (recorderBounded_iff s).1 h
  cases hc : isReset c with
  | true =>
    cases c <;> cases hc <;> cases ht <;> exact (recorderBounded_iff _).2 Drc.reset_bounded
  | false =>
    exact recorderBounded_kept.exec h hc bounded.not_failed_of_running
      (fun hdrc _ => (recorderBounded_iff _).2 (hdrc ▸ bounded)) ht

/-- Settles O9: every event of the recorder keeps its bounds, and no other event touches it. -/
theorem stepKeepsRecorderBounds : Obligations.StepKeepsRecorderBounds := by
  intro s t h ht
  unfold step at ht
  split at ht
  case h_1 =>
    cases ht
    exact h
  case h_2 rest _ => exact exec_recorderBounded (s := { s with pending := rest }) h ht

/-- Settles O12: no event of the recorder lowers an accumulator, and with no restart pending none takes place at the
end of the command. -/
theorem accumulatorsOnlyGrow : Obligations.AccumulatorsOnlyGrow := by
  intro c s t h hc hr ht
  have bounded := (recorderBounded_iff s).1 h
  have unsent : s.Unsent := fun r hr' => by simp [hr] at hr'
  obtain ⟨-, acc, -⟩ := (grownFrom_kept s.drc.acc).exec ⟨bounded, accumulatorsAtMost_refl _, unsent⟩ hc
    bounded.not_failed_of_running (fun _ pending => absurd hr pending) ht
  exact acc

end Sys2Proof.Machine

end


section
/-! PROOFS. A record as bytes: what is written in a slot reads back, and where the slots stand. -/

namespace Sys2Proof.Machine

open Sys2Proof.Safety

/-! ## Fields read back (R188) -/

@[simp] theorem toNat_byte (n : Nat) : (byte n).toNat = n % 256 := by simp [byte]

/-- The fields behind other bytes are read at their offsets from the end of those. -/
theorem rd8_append_right {pre : List Byte} {k : Nat} (hk : pre.length = k) (bs : List Byte) (i : Nat) :
    rd8 (pre ++ bs) (i + k) = rd8 bs i := by
  subst hk
  simp [rd8, List.getElem?_append_right]

theorem rd16_append_right {pre : List Byte} {k : Nat} (hk : pre.length = k) (bs : List Byte) (i : Nat) :
    rd16 (pre ++ bs) (i + k) = rd16 bs i := by
  simp only [rd16, Nat.add_right_comm i k, rd8_append_right hk]

theorem rd32_append_right {pre : List Byte} {k : Nat} (hk : pre.length = k) (bs : List Byte) (i : Nat) :
    rd32 (pre ++ bs) (i + k) = rd32 bs i := by
  simp only [rd32, Nat.add_right_comm i k, rd16_append_right hk]

theorem length_be16 (n : Nat) : (be16 n).length = 2 := rfl

theorem length_be32 (n : Nat) : (be32 n).length = 4 := rfl

/-- A two-byte field reads back as it was written. -/
theorem rd16_be16 {n : Nat} (h : n ≤ 65535) (rest : List Byte) : rd16 (be16 n ++ rest) 0 = n := by
  simp [rd16, rd8, be16]
  omega

/-- A four-byte field reads back as it was written. -/
theorem rd32_be32 {n : Nat} (h : n ≤ 4294967295) (rest : List Byte) : rd32 (be32 n ++ rest) 0 = n := by
  simp [rd32, rd16, rd8, be32]
  omega

theorem length_padTo (n : Nat) (bytes : List Byte) : (padTo n bytes).length = n := by
  simp only [padTo, List.length_take, List.length_append, List.length_replicate]
  omega

theorem padTo_of_length {n : Nat} {bytes : List Byte} (h : bytes.length = n) : padTo n bytes = bytes := by
  simp [padTo, h]

/-! ## A record in its slot (R152, R192) -/

theorem recordKindCode_range (body : RecordBody) : 1 ≤ recordKindCode body ∧ recordKindCode body ≤ 11 := by
  cases body <;> simp [recordKindCode]

/-- UNSYNCED is bit 0 of a record's flags, and a SYNC's cause stands above it. -/
theorem testBit_recordFlags (r : Record) : (recordFlags r % 256).testBit 0 = r.unsynced := by
  have flags : ∃ k, recordFlags r = bit 0 r.unsynced + 2 * k := by
    unfold recordFlags
    split
    · exact ⟨_, rfl⟩
    · exact ⟨0, rfl⟩
  obtain ⟨k, hk⟩ := flags
  rw [hk]
  cases r.unsynced <;> simp [bit]

section
variable (n : Nat) (a : Accumulators) (r : Record)

/-- The ten bytes that stand before every record's body. -/
def recordHead : List Byte := be32 n ++ (be32 r.time ++ [byte (recordKindCode r.body), byte (recordFlags r)])

/-- The 30 bytes a record's CRC covers. -/
def recordCovered : List Byte := recordHead n r ++ padTo 20 (recordBody a r.body)

theorem recordBytes_eq : recordBytes n a r = recordCovered n a r ++ crcBytes (recordCovered n a r) := by
  simp [recordBytes, recordCovered, recordHead]

theorem length_recordCovered : (recordCovered n a r).length = 30 := by
  simp [recordCovered, recordHead, length_padTo, be32]

theorem length_recordBytes : (recordBytes n a r).length = 32 := by
  simp [recordBytes_eq, length_recordCovered]

/-- The CRC behind a record is that of the 30 bytes before it. -/
theorem recordBytes_crc : (recordBytes n a r).drop 30 = crcBytes ((recordBytes n a r).take 30) := by
  rw [recordBytes_eq, List.drop_left' (length_recordCovered n a r), List.take_left' (length_recordCovered n a r)]

/-- The slot's bytes, sequence number first. -/
theorem recordBytes_head : ∃ rest, recordBytes n a r = be32 n ++ (be32 r.time ++
    ([byte (recordKindCode r.body), byte (recordFlags r)] ++ (padTo 20 (recordBody a r.body) ++ rest))) :=
  ⟨crcBytes (recordCovered n a r), by simp [recordBytes_eq, recordCovered, recordHead]⟩

theorem rd32_recordBytes_sequence (hn : n ≤ lastSequence) : rd32 (recordBytes n a r) 0 = n := by
  obtain ⟨rest, h⟩ := recordBytes_head n a r
  rw [h, rd32_be32 (hn.trans (by decide))]

theorem rd32_recordBytes_time (ht : r.time ≤ 4294967295) : rd32 (recordBytes n a r) 4 = r.time := by
  obtain ⟨rest, h⟩ := recordBytes_head n a r
  rw [h, rd32_append_right (length_be32 n) _ 0, rd32_be32 ht]

theorem rd8_recordBytes_kind : rd8 (recordBytes n a r) 8 = recordKindCode r.body := by
  obtain ⟨rest, h⟩ := recordBytes_head n a r
  have range := recordKindCode_range r.body
  rw [h, rd8_append_right (length_be32 n) _ 4, rd8_append_right (length_be32 r.time) _ 0]
  simp [rd8]
  omega

theorem rd8_recordBytes_flags : rd8 (recordBytes n a r) 9 = recordFlags r % 256 := by
  obtain ⟨rest, h⟩ := recordBytes_head n a r
  rw [h, rd8_append_right (length_be32 n) _ 5, rd8_append_right (length_be32 r.time) _ 1]
  simp [rd8]

theorem slotValid_recordBytes (h1 : 1 ≤ n) (hn : n ≤ lastSequence) : slotValid (recordBytes n a r) = true := by
  obtain ⟨low, high⟩ := recordKindCode_range r.body
  have last : n ≠ 4294967295 := by
    simp only [lastSequence] at hn
    omega
  have first : n ≠ 0 := by omega
  simp [slotValid, recordBytes_crc, rd8_recordBytes_kind, rd32_recordBytes_sequence n a r hn, low, high, last, first]

/-- A SYNC gives its accumulators back. -/
theorem accumulatorsOf_recordBytes (hsync : r.body.isSync = true) (ha : AccumulatorsAtMost a .top) :
    accumulatorsOf (recordBytes n a r) = a := by
  obtain ⟨main, aux, roll, water, engMain, engAux⟩ := ha
  have body : recordBody a r.body = syncBody a := by
    cases hbody : r.body with
    | sync _ _ => rfl
    | _ => simp [hbody, RecordBody.isSync] at hsync
  obtain ⟨rest, h⟩ := recordBytes_head n a r
  have padded : padTo 20 (syncBody a) = syncBody a := padTo_of_length rfl
  have split : recordBytes n a r = recordHead n r ++ (be32 a.mainRunS ++ (be32 a.auxRunS ++ (be32 a.rollM ++
      (be32 a.waterL ++ (be16 a.engagementsMain ++ (be16 a.engagementsAux ++ rest)))))) := by
    rw [h, body, padded]
    simp [recordHead, syncBody]
  have head : (recordHead n r).length = 10 := rfl
  obtain ⟨am, aa, ar, aw, em, ea⟩ := a
  simp only [split, accumulatorsOf, rd32_append_right head, rd16_append_right head,
    rd32_append_right (length_be32 _), rd16_append_right (length_be32 _), rd16_append_right (length_be16 _),
    rd32_be32 main, rd32_be32 aux, rd32_be32 roll, rd32_be32 water, rd16_be16 engMain, rd16_be16 engAux]

end

/-- Settles O50: the slots by their addresses, and a record by its fields. -/
theorem recordBytesReadBack : Obligations.RecordBytesReadBack := by
  refine ⟨fun i j bytes hi hj => ?slots, fun n a r h1 hn ht => ?record⟩
  case slots =>
    simp only [PortOp.address, PortOp.size, slotAddress, ringBase, slotSize, true_and]
    omega
  case record =>
    refine ⟨length_recordBytes n a r, slotValid_recordBytes n a r h1 hn, rd32_recordBytes_sequence n a r hn,
      rd32_recordBytes_time n a r ht, rd8_recordBytes_kind n a r, ?_, accumulatorsOf_recordBytes n a r⟩
    rw [rd8_recordBytes_flags, testBit_recordFlags]

end Sys2Proof.Machine

end


section
/-! PROOFS. The end of a Duty Recorder event and of its command: what is handed over reaches the Link Unit alone. -/

namespace Sys2Proof.Machine

open Sys2Proof.Safety

/-! ## Publications for one block -/

theorem takeFor_eq_none {b : Block} {xs : List (Block × Event)} (h : ∀ x ∈ xs, x.1 ≠ b) : takeFor b xs = none := by
  induction xs with
  | nil => rfl
  | cons x xs ih =>
    rw [takeFor, if_neg (h x (.head _)), ih fun y hy => h y (.tail _ hy)]

/-- Where all publications are for one block, it takes them in their order, whatever the schedule says. -/
theorem nextDelivery_oneBlock (schedule : List Block) (b : Block) (e : Event) (es : List Event) :
    nextDelivery schedule (b, e) (es.map (b, ·)) = (b, e, es.map (b, ·)) := by
  cases schedule with
  | nil => rfl
  | cons c cs =>
    by_cases hc : b = c
    · subst hc
      simp [nextDelivery, takeFor]
    · have hnone : takeFor c ((b, e) :: es.map (b, ·)) = none := takeFor_eq_none (by simp [hc])
      simp [nextDelivery, hnone]

/-- What the Link Unit makes of a publication. -/
def Lnk.hears (l : Lnk) : Event → Lnk
  | .reply body => l.answer body
  | .restartReady => { l with restart := l.restart.map fun r => { r with recorderReady := true } }
  | _ => l

theorem State.lnkEvent_eq (s : State) (e : Event) : s.lnkEvent e = { s with lnk := s.lnk.hears e } := by
  cases e with
  | restartReady =>
    cases h : s.lnk.restart with
    | none =>
      simp only [State.lnkEvent, Lnk.hears, h, Option.map_none]
      rw [← h]
    | some r => simp [State.lnkEvent, Lnk.hears, h]
  | _ => rfl

/-- Publications for the Link Unit alone are heard one after another. -/
theorem settle_lnk (es : List Event) : ∀ {n : Nat}, es.length ≤ n → ∀ {s : State}, s.agenda = es.map (.lnk, ·) →
    settle n s = { s with
      agenda := [], schedule := s.schedule.drop es.length, lnk := es.foldl Lnk.hears s.lnk } := by
  induction es with
  | nil =>
    intro n _ s ha
    rw [settle_quiet ha]
    cases s
    cases ha
    rfl
  | cons e es ih =>
    intro n hn s ha
    obtain ⟨n, rfl⟩ : ∃ m, n = m + 1 := ⟨n - 1, by rw [List.length_cons] at hn; omega⟩
    rw [settle_step (first := (.lnk, e)) ha, nextDelivery_oneBlock]
    simp only [State.deliver, State.lnkEvent_eq]
    rw [ih (by simpa using hn) rfl]
    simp

/-! ## What a command leaves once the recorder has acted -/

/-- The reply that an event of the recorder forms, taken by the Link Unit (R160 to R163). -/
def DrcWork.answers (w : DrcWork) (l : Lnk) : Lnk :=
  match w.reply with
  | some body => l.answer body
  | none => l

/-- Where a command ends that began in `u`, with the recorder's event come to `w`. -/
structure RecorderActed (u : State) (w : DrcWork) (t : State) : Prop where
  now : t.now = u.now
  kept : InputsAndProfileKept u t
  drc : t.drc = w.drc
  port : t.port = u.port.ask .drc w.ask
  service : t.lnk.service = (w.answers u.lnk).service

/-- A readiness that no restart waits for is passed over, so the reply alone is heard. -/
theorem drcOut_heard {l : Lnk} (hr : l.restart = none) (w : DrcWork) : ∃ es : List Event, es.length ≤ 2 ∧
    (drcOut w).events = es.map (.lnk, ·) ∧ es.foldl Lnk.hears l = w.answers l := by
  have ready (l : Lnk) (hr : l.restart = none) : l.hears .restartReady = l := by
    rw [Lnk.hears, hr, Option.map_none, ← hr]
  cases hreply : w.reply with
  | none =>
    cases hready : w.ready with
    | false => exact ⟨[], by decide, by simp [drcOut, hreply, hready], by simp [DrcWork.answers, hreply]⟩
    | true =>
      exact ⟨[.restartReady], by decide, by simp [drcOut, hreply, hready],
        by simp [DrcWork.answers, hreply, ready l hr]⟩
  | some body =>
    have answered : (l.hears (.reply body)).restart = none := (Lnk.answer_restart l body).trans hr
    cases hready : w.ready with
    | false =>
      exact ⟨[.reply body], Nat.le_succ 1, by simp [drcOut, hreply, hready],
        by simp [DrcWork.answers, hreply, Lnk.hears]⟩
    | true =>
      refine ⟨[.reply body, .restartReady], le_rfl, by simp [drcOut, hreply, hready], ?_⟩
      simp only [List.foldl_cons, List.foldl_nil, ready _ answered]
      simp [DrcWork.answers, hreply, Lnk.hears]

/-- An answer touches the request in service alone. -/
theorem DrcWork.answers_frame (w : DrcWork) (l : Lnk) :
    (w.answers l).rx = l.rx ∧ (w.answers l).gapTimer = l.gapTimer ∧ (w.answers l).waiting = l.waiting ∧
    (w.answers l).restart = l.restart ∧ (w.answers l).mask = l.mask ∧ (w.answers l).faults = l.faults ∧
    (w.answers l).baudHigh = l.baudHigh := by
  unfold DrcWork.answers
  split
  · unfold Lnk.answer
    split <;> simp
  · simp

theorem DrcWork.answers_service_congr (w : DrcWork) {l l' : Lnk} (h : l'.service = l.service) :
    (w.answers l').service = (w.answers l).service := by
  unfold DrcWork.answers
  split
  · unfold Lnk.answer
    rw [h]
    split <;> simp [h]
  · exact h

theorem DrcWork.answers_none {w : DrcWork} (h : w.reply = none) (l : Lnk) : w.answers l = l := by
  simp [DrcWork.answers, h]

/-- The reply goes to the request in service. -/
theorem DrcWork.answers_service {w : DrcWork} {body : List Byte} (h : w.reply = some body) {l : Lnk} {kind tag : Byte}
    {reply : Option (List Byte)} (hl : l.service = some ⟨kind, tag, reply⟩) :
    (w.answers l).service = some ⟨kind, tag, some (replyFrame kind tag body)⟩ := by
  simp [DrcWork.answers, h, Lnk.answer, hl]

/-- A command that is the recorder's ends with nothing but its own effect and the reply on the link. -/
theorem State.drcCommit_finish {u : State} (hr : u.lnk.restart = none) (ha : u.agenda = []) (w : DrcWork) :
    RecorderActed u w (u.drcCommit w).finish := by
  obtain ⟨hrx, hgap, hservice, hwaiting, hrestart, hmask, hfaults, hbaud⟩ :=
    Lnk.posts_frame w.news ({ u with drc := w.drc } : State).seconds u.lnk
  generalize hl : w.news.foldl (fun l n => l.post ({ u with drc := w.drc } : State).seconds n) u.lnk = l at *
  have lnk : (u.drcCommit w).lnk = l := hl
  obtain ⟨es, hes, hevents, heard⟩ := drcOut_heard (hrestart.trans hr) w
  have agenda : (u.drcCommit w).agenda = es.map (.lnk, ·) := by simp [ha, hevents]
  obtain ⟨arx, agap, awaiting, arestart, amask, afaults, abaud⟩ := w.answers_frame l
  have restart : (w.answers l).restart = none := arestart.trans (hrestart.trans hr)
  rw [State.finish, settle_lnk es (hes.trans (by decide)) agenda, lnk, heard, State.restartIfDue_none restart]
  exact ⟨rfl, ⟨rfl, rfl, rfl, rfl, rfl, arx.trans hrx, agap.trans hgap, awaiting.trans hwaiting, amask.trans hmask,
    afaults.trans hfaults, abaud.trans hbaud⟩, rfl, rfl, w.answers_service_congr hservice⟩

/-- An operation the recorder asks for begins, or waits for the port (R179). -/
theorem Port.ask_drc (p : Port) (op : PortOp) :
    (p.ask .drc (some op)).busy = some (.drc, op) ∨ (p.ask .drc (some op)).drcWaits = some op := by
  have asked : p.ask .drc (some op) = Port.serve { p with drcWaits := some op } := rfl
  rw [asked]
  obtain h | ⟨op', -, -, h⟩ | ⟨op', -, waits, h⟩ := Port.serve_cases { p with drcWaits := some op } <;> rw [h]
  · exact .inr rfl
  · exact .inr rfl
  · exact .inl (congrArg (Option.map (Prod.mk Client.drc)) waits.symm)

/-! ## The end of an event (R154, R155, R157, R160) -/

/-- What the end of an event leaves of the unit: a LOST record may join the queue, and a write may begin. -/
structure Drc.KeptAtEnd (now : Micros) (d d' : Drc) : Prop where
  state : d'.state = d.state
  acc : d'.acc = d.acc
  restored : d'.restored = d.restored
  timeBase : d'.timeBase = d.timeBase
  head : d'.head = d.head
  nextSeq : d'.nextSeq = d.nextSeq
  oldest : d'.oldest = d.oldest
  scan : d'.scan = d.scan
  sync : d'.syncTimer = d.syncTimer ∨ d'.syncTimer = .started now syncPeriod
  queue : ∃ rest, d'.queue = d.queue ++ rest
  noneLost : d.lostCount = 0 → d'.queue = d.queue ∧ d'.lostCount = 0

theorem Drc.KeptAtEnd.refl (now : Micros) (d : Drc) : d.KeptAtEnd now d :=
  ⟨rfl, rfl, rfl, rfl, rfl, rfl, rfl, rfl, .inl rfl, ⟨[], by simp⟩, fun h => ⟨rfl, h⟩⟩

theorem Drc.KeptAtEnd.trans {now : Micros} {a b c : Drc} (h : a.KeptAtEnd now b) (k : b.KeptAtEnd now c) :
    a.KeptAtEnd now c where
  state := k.state.trans h.state
  acc := k.acc.trans h.acc
  restored := k.restored.trans h.restored
  timeBase := k.timeBase.trans h.timeBase
  head := k.head.trans h.head
  nextSeq := k.nextSeq.trans h.nextSeq
  oldest := k.oldest.trans h.oldest
  scan := k.scan.trans h.scan
  sync := k.sync.elim (fun e => h.sync.imp e.trans e.trans) .inr
  queue := by
    obtain ⟨xs, hx⟩ := h.queue
    obtain ⟨ys, hy⟩ := k.queue
    exact ⟨xs ++ ys, by rw [hy, hx, List.append_assoc]⟩
  noneLost := fun hlost => by
    obtain ⟨hq, hl⟩ := h.noneLost hlost
    obtain ⟨kq, kl⟩ := k.noneLost hl
    exact ⟨kq.trans hq, kl⟩

/-- Of the unit, a LOST record touches the queue and lost_count alone. -/
theorem addLost_eq (s : State) (w : DrcWork) : ∃ queue lost, addLost s w =
    { w with drc := { w.drc with queue := queue, lostCount := lost } } := by
  unfold addLost
  dsimp only
  split
  · exact ⟨_, _, rfl⟩
  · exact ⟨w.drc.queue, w.drc.lostCount, rfl⟩

theorem addLost_failed {w : DrcWork} (h : w.drc.state = .failed) (s : State) : addLost s w = w := by
  simp [addLost, h]

theorem addLost_kept (s : State) (w : DrcWork) : w.drc.KeptAtEnd s.now (addLost s w).drc := by
  unfold addLost
  dsimp only
  split
  case isTrue room =>
    obtain ⟨lost, -, -⟩ := room
    exact ⟨rfl, rfl, rfl, rfl, rfl, rfl, rfl, rfl, .inl rfl, ⟨_, rfl⟩, fun hlost => absurd hlost lost.ne'⟩
  case isFalse => exact .refl _ _

theorem issueRead_none {w : DrcWork} (h : w.drc.read = none) : issueRead w = w := by
  simp [issueRead, h]

theorem issueRead_issued {w : DrcWork} {r : RingRead} (h : w.drc.read = some r) (issued : r.issued = true) :
    issueRead w = w := by
  cases hw : w.drc.write <;> simp [issueRead, h, hw, issued]

theorem issueRead_kept (now : Micros) (w : DrcWork) : w.drc.KeptAtEnd now (issueRead w).drc := by
  unfold issueRead
  dsimp only
  split
  case h_1 =>
    split
    · exact .refl _ _
    split <;> exact ⟨rfl, rfl, rfl, rfl, rfl, rfl, rfl, rfl, .inl rfl, ⟨[], by simp⟩, fun h => ⟨rfl, h⟩⟩
  case h_2 => exact .refl _ _

/-- No write begins outside RUNNING, beside another or while READ RECORDS has the port. -/
theorem beginWrite_idle {w : DrcWork} (h : w.drc.state ≠ .running ∨ w.drc.write ≠ none ∨ w.drc.read ≠ none)
    (s : State) : beginWrite s w = w := by
  unfold beginWrite
  dsimp only
  split
  case h_1 state _ _ write read => simp [state, write, read] at h
  case h_2 => rfl

/-- What the end of an event may still begin is the write of one record. -/
theorem beginWrite_cases (s : State) (w : DrcWork) :
    beginWrite s w = w ∨ ∃ n r fromQueue, beginWrite s w = startWrite s n r fromQueue w := by
  unfold beginWrite
  dsimp only
  split
  case h_1 => split <;> exact .inr ⟨_, _, _, rfl⟩
  case h_2 => exact .inl rfl

theorem startWrite_kept (s : State) (n : Nat) (r : Record) (fromQueue : Bool) (w : DrcWork) :
    w.drc.KeptAtEnd s.now (startWrite s n r fromQueue w).drc := by
  unfold startWrite
  dsimp only
  split
  · exact ⟨rfl, rfl, rfl, rfl, rfl, rfl, rfl, rfl, .inr rfl, ⟨[], by simp⟩, fun h => ⟨rfl, h⟩⟩
  · exact ⟨rfl, rfl, rfl, rfl, rfl, rfl, rfl, rfl, .inl rfl, ⟨[], by simp⟩, fun h => ⟨rfl, h⟩⟩

theorem startWrite_read (s : State) (n : Nat) (r : Record) (fromQueue : Bool) (w : DrcWork) :
    (startWrite s n r fromQueue w).drc.read = w.drc.read ∧ (startWrite s n r fromQueue w).reply = w.reply := by
  unfold startWrite
  dsimp only
  split <;> exact ⟨rfl, rfl⟩

theorem drcEnd_kept (s : State) (w : DrcWork) : w.drc.KeptAtEnd s.now (drcEnd s w).drc := by
  refine (addLost_kept s w).trans ((issueRead_kept s.now _).trans ?_)
  obtain h | ⟨n, r, fromQueue, h⟩ := beginWrite_cases s (issueRead (addLost s w)) <;> rw [drcEnd, h]
  · exact .refl _ _
  · exact startWrite_kept s n r fromQueue _

/-- An event that leaves no READ RECORDS ends with the reply its body formed. -/
theorem drcEnd_noRead {w : DrcWork} (h : w.drc.read = none) (s : State) :
    (drcEnd s w).drc.read = none ∧ (drcEnd s w).reply = w.reply := by
  obtain ⟨queue, lost, lostEq⟩ := addLost_eq s w
  have issued : issueRead (addLost s w) = addLost s w := issueRead_none (by rw [lostEq]; exact h)
  rw [drcEnd, issued]
  have read : (addLost s w).drc.read = none ∧ (addLost s w).reply = w.reply := by
    rw [lostEq]
    exact ⟨h, rfl⟩
  obtain hb | ⟨n, r, fromQueue, hb⟩ := beginWrite_cases s (addLost s w) <;> rw [hb]
  · exact read
  · obtain ⟨hread, hreply⟩ := startWrite_read s n r fromQueue (addLost s w)
    exact ⟨hread.trans read.1, hreply.trans read.2⟩

/-- With no write to begin and no read to issue, an event ends with at most a LOST record. -/
theorem drcEnd_eq_addLost {w : DrcWork} (hread : ∀ r, w.drc.read = some r → r.issued = true)
    (hwrite : w.drc.state ≠ .running ∨ w.drc.write ≠ none ∨ w.drc.read ≠ none) (s : State) :
    drcEnd s w = addLost s w := by
  obtain ⟨queue, lost, lostEq⟩ := addLost_eq s w
  have issued : issueRead (addLost s w) = addLost s w := by
    rw [lostEq]
    cases h : w.drc.read with
    | none => exact issueRead_none h
    | some r => exact issueRead_issued h (hread r h)
  rw [drcEnd, issued]
  exact beginWrite_idle (by rw [lostEq]; exact hwrite) s

/-- Such an event ends with the operation, the read and the reply of its body. -/
theorem drcEnd_idle {w : DrcWork} (hread : ∀ r, w.drc.read = some r → r.issued = true)
    (hwrite : w.drc.state ≠ .running ∨ w.drc.write ≠ none ∨ w.drc.read ≠ none) (s : State) :
    (drcEnd s w).ask = w.ask ∧ (drcEnd s w).drc.read = w.drc.read ∧ (drcEnd s w).reply = w.reply := by
  obtain ⟨queue, lost, h⟩ := addLost_eq s w
  rw [drcEnd_eq_addLost hread hwrite, h]
  exact ⟨rfl, rfl, rfl⟩

/-- In FAILED nothing is staged, read or written (R159). -/
theorem drcEnd_failed {w : DrcWork} (h : w.drc.state = .failed) (hread : w.drc.read = none) (s : State) :
    drcEnd s w = w := by
  rw [drcEnd_eq_addLost (by simp [hread]) (.inl (by simp [h])), addLost_failed h]

end Sys2Proof.Machine

end


section
/-! PROOFS. The SYNC timer and the ends of a ring write. -/

namespace Sys2Proof.Machine

open Sys2Proof.Safety

/-! ## The commands -/

theorem exec_syncTimerExpiry {s : State} {due : Micros} (h : s.drc.syncTimer = .running due) :
    exec .syncTimerExpiry s = .next ((s.beginAt (max s.now due)).drcTakes
      (drcSyncExpired (s.beginAt (max s.now due)))).finish := by
  simp only [exec, execSyncTimerExpiry, atExpiry_running h]

/-- The state in which an end of the port's operation in progress is taken: the command has begun and the port serves
what waits (R179). -/
def State.freed (s : State) (time : Micros) : State := (s.beginAt time).portFreed

theorem exec_halfPageWriteEnd {s : State} {slot : Nat} {bytes : List Byte}
    (h : s.port.busy = some (.drc, .slotWrite slot bytes)) (dt : Micros) (outcome : WriteEnd) :
    exec (.halfPageWriteEnd dt outcome) s =
      .next ((s.freed (s.now + dt)).drcTakes (drcWriteEnd outcome)).finish := by
  have busy : (s.beginAt (s.now + dt)).port.busy = some (.drc, .slotWrite slot bytes) := by
    simp [State.beginAt, Port.serve_busy h, h]
  simp only [exec, execHalfPageWriteEnd, after_eq, State.slotWriteEnded, busy, State.freed]

/-- Where a command of the recorder's ends, its event taken in `u`. -/
theorem State.drcTakes_finish {u : State} (hr : u.lnk.restart = none) (ha : u.agenda = [])
    (body : DrcWork → DrcWork) :
    RecorderActed u (drcEnd u (body { drc := u.drc })) (u.drcTakes body).finish :=
  State.drcCommit_finish hr ha _

/-! ## SYNC_TIMER_EXPIRY (R154) -/

section
variable (s : State) {w : DrcWork}

/-- With the changed flag clear the expiry restarts the timer, and that is all. -/
theorem drcSyncExpired_unchanged (h : w.drc.changed = false) :
    drcSyncExpired s w = { w with drc := { w.drc with syncTimer := .started s.now syncPeriod } } := by
  simp [drcSyncExpired, h]

/-- With the changed flag set and an empty queue a TIMER SYNC is staged. -/
theorem drcSyncExpired_changed (h : w.drc.changed = true) (queue : w.drc.queue = []) (running : w.drc.state ≠ .failed) :
    drcSyncExpired s w = { w with drc := { w.drc with
      syncTimer := .started s.now syncPeriod, queue := [s.stamp (.sync .timer false)] } } := by
  simp [drcSyncExpired, h, Drc.waiting, queue, Drc.stage, running, stagingCapacity]

/-- A record staged touches the queue and lost_count alone. -/
theorem Drc.stage_eq (r : Record) (d : Drc) : ∃ queue lost,
    d.stage r = { d with queue := queue, lostCount := lost } := by
  unfold Drc.stage
  split
  · exact ⟨d.queue, _, rfl⟩
  split
  · exact ⟨_, d.lostCount, rfl⟩
  · exact ⟨d.queue, _, rfl⟩

/-- The expiry restarts the timer and leaves the accumulators and the ring as they are. -/
theorem drcSyncExpired_frame (w : DrcWork) :
    let d := (drcSyncExpired s w).drc
    d.syncTimer = .started s.now syncPeriod ∧ d.acc = w.drc.acc ∧ d.state = w.drc.state ∧
      d.nextSeq = w.drc.nextSeq := by
  unfold drcSyncExpired
  dsimp only
  split
  · obtain ⟨queue, lost, h⟩ := Drc.stage_eq (s.stamp (.sync .timer false))
      { w.drc with syncTimer := .started s.now syncPeriod }
    rw [h]
    exact ⟨rfl, rfl, rfl, rfl⟩
  · exact ⟨rfl, rfl, rfl, rfl⟩

end

/-! ## HALF_PAGE_WRITE_END (R153, R157, R159) -/

section
variable {w : DrcWork} {rw : RingWrite}

/-- Below the last sequence number a record leaves the ring with the head and the next number advanced. -/
theorem leaveRing_below (h : rw.sequence < lastSequence) (oldest : Option Nat) (w : DrcWork) :
    leaveRing rw oldest w = { w with
      drc := { w.drc with
        queue := if rw.fromQueue then w.drc.queue.drop 1 else w.drc.queue
        write := none
        head := w.drc.head.map nextSlot
        nextSeq := some (rw.sequence + 1)
        oldest := oldest }
      ready := w.ready || rw.restartMark } := by
  have below : ¬ lastSequence < rw.sequence + 1 := by omega
  simp [leaveRing, below]

variable (h : w.drc.write = some rw)
include h

theorem drcWriteEnd_equal : drcWriteEnd .equal w =
    leaveRing rw (some (oldestAfter rw.sequence (w.drc.oldest.getD rw.sequence))) w := by
  simp [drcWriteEnd, h]

/-- An outcome other than equal is tried again the first time. -/
theorem drcWriteEnd_again {outcome : WriteEnd} (hout : outcome ≠ .equal) (hlast : rw.last ≠ some outcome) :
    drcWriteEnd outcome w = rewrite rw outcome w := by
  cases outcome with
  | equal => exact absurd rfl hout
  | different | noAnswer => simp [drcWriteEnd, h, hlast]

theorem drcWriteEnd_skip (hlast : rw.last = some .different) : drcWriteEnd .different w =
    leaveRing rw (w.drc.oldest.map (oldestAfter rw.sequence))
      { w with drc := w.drc.loseOne, news := w.news ++ [recorderNews 3 (be32 rw.sequence)] } := by
  simp [drcWriteEnd, h, hlast]

theorem drcWriteEnd_fails (hlast : rw.last = some .noAnswer) : drcWriteEnd .noAnswer w = enterFailed 0 w := by
  simp [drcWriteEnd, h, hlast]

end

/-- The same bytes are asked for again, and nothing else begins (R157). -/
theorem drcEnd_rewrite {w : DrcWork} (rw : RingWrite) (hread : w.drc.read = none) {slot : Nat}
    (hhead : w.drc.head = some slot) (s : State) (outcome : WriteEnd) :
    ∃ queue lost, drcEnd s (rewrite rw outcome w) = { w with
      drc := { w.drc with write := some { rw with last := some outcome }, queue := queue, lostCount := lost }
      ask := some (.slotWrite slot rw.bytes) } := by
  rw [drcEnd_eq_addLost (by simp [rewrite, hread]) (.inr (.inl (by simp [rewrite])))]
  obtain ⟨queue, lost, h⟩ := addLost_eq s (rewrite rw outcome w)
  refine ⟨queue, lost, ?_⟩
  rw [h]
  simp [rewrite, hhead]

/-- Settles O46: the SYNC timer by the changed flag, and the write's end by its outcome and the one before it. -/
theorem syncExpiryAndSlotWriteComplete : Obligations.SyncExpiryAndSlotWriteComplete := by
  intro s hr
  refine ⟨fun due hdue running => ?sync, fun dt outcome slot bytes rw hbusy hwrite hlast hstate hread hhead => ?write⟩
  case sync =>
    let u := s.beginAt (max s.now due)
    have acted := State.drcTakes_finish (u := u) hr rfl (drcSyncExpired u)
    have ends := drcEnd_kept u (drcSyncExpired u { drc := u.drc })
    refine ⟨_, exec_syncTimerExpiry hdue, acted.kept, ?_⟩
    rw [acted.drc]
    obtain ⟨sync, acc, state, nextSeq⟩ := drcSyncExpired_frame u { drc := u.drc }
    refine ⟨ends.sync.elim (·.trans sync) id, ends.acc.trans acc, ends.state.trans state, ends.nextSeq.trans nextSeq,
      fun unchanged hlost => ?_, fun changed queue _ hlost => ?_⟩
    · rw [drcSyncExpired_unchanged u (w := { drc := u.drc }) unchanged] at ends ⊢
      exact (ends.noneLost hlost).1
    · rw [drcSyncExpired_changed u (w := { drc := u.drc }) changed queue running] at ends ⊢
      exact ⟨_, (ends.noneLost hlost).1, rfl⟩
  case write =>
    let u := s.freed (s.now + dt)
    have hwrite : ({ drc := u.drc } : DrcWork).drc.write = some rw := hwrite
    have advanced : s.drc.head.map nextSlot = some ((slot + 1) % 1920) := by rw [hhead]; rfl
    have acted := State.drcTakes_finish (u := u) hr rfl (drcWriteEnd outcome)
    have ends := drcEnd_kept u (drcWriteEnd outcome { drc := u.drc })
    refine ⟨_, exec_halfPageWriteEnd hbusy dt outcome, acted.kept, acted.now, ?_⟩
    have port := acted.port
    rw [acted.drc]
    by_cases hequal : outcome = .equal
    case pos =>
      subst hequal
      rw [drcWriteEnd_equal hwrite, leaveRing_below hlast] at ends ⊢
      exact ⟨ends.acc, ends.state.trans hstate, ends.head.trans advanced, ends.nextSeq, ends.oldest,
        fun hlost => (ends.noneLost hlost).1⟩
    rw [if_neg hequal]
    by_cases hagain : rw.last ≠ some outcome
    case pos =>
      obtain ⟨queue, lost, again⟩ := drcEnd_rewrite (w := { drc := u.drc }) rw hread hhead u outcome
      rw [drcWriteEnd_again hwrite hequal hagain, again] at port ⊢
      rw [if_pos hagain, port]
      exact ⟨rfl, hstate, hhead, rfl, rfl, Port.ask_drc _ _⟩
    rw [if_neg hagain]
    have hagain := not_not.1 hagain
    cases outcome with
    | equal => exact absurd rfl hequal
    | different =>
      rw [drcWriteEnd_skip hwrite hagain, leaveRing_below hlast] at ends ⊢
      exact ⟨ends.acc, ends.state.trans hstate, ends.head.trans advanced, ends.nextSeq⟩
    | noAnswer =>
      have failed := drcEnd_failed (w := enterFailed 0 { drc := u.drc }) rfl rfl u
      rw [drcWriteEnd_fails hwrite hagain, failed]
      exact ⟨rfl, rfl, rfl, rfl, rfl, rfl⟩

end Sys2Proof.Machine

end


section
/-! PROOFS. The ends of a ring read: the recovery scan and READ RECORDS. -/

namespace Sys2Proof.Machine

open Sys2Proof.Safety

theorem exec_slotReadEnd {s : State} {slot : Nat} (h : s.port.busy = some (.drc, .slotRead slot)) (dt : Micros)
    (outcome : SlotEnd) :
    exec (.slotReadEnd dt outcome) s =
      .next ((s.freed (s.now + dt)).drcTakes (drcSlotReadEnd outcome)).finish := by
  have busy : (s.beginAt (s.now + dt)).port.busy = some (.drc, .slotRead slot) := by
    simp [State.beginAt, Port.serve_busy h, h]
  simp only [exec, execSlotReadEnd, after_eq, State.slotReadEnded, busy, State.freed]

/-! ## The recovery scan (R158) -/

section
variable {w : DrcWork}

theorem drcSlotReadEnd_recovering (h : w.drc.state = .recovering) (outcome : SlotEnd) :
    drcSlotReadEnd outcome w = drcScanEnd outcome w := by
  simp [drcSlotReadEnd, h]

/-- The scan keeps to its slot. -/
@[simp] theorem scanSlot_slot (sc : RingScan) (bs : List Byte) : (scanSlot sc bs).slot = sc.slot := by
  unfold scanSlot
  split <;> rfl

/-- The scan with a slot's bytes taken in (R158). -/
def RingScan.took (sc : RingScan) (bytes : Vector Byte 32) : RingScan :=
  { scanSlot sc bytes.toList with again := false }

theorem drcScanEnd_again (h : w.drc.scan.again = false) : drcScanEnd .noAnswer w = { w with
    drc := { w.drc with scan := { w.drc.scan with again := true } }, ask := some (.slotRead w.drc.scan.slot) } := by
  simp [drcScanEnd, h]

theorem drcScanEnd_fails (h : w.drc.scan.again = true) : drcScanEnd .noAnswer w = enterFailed 0 w := by
  simp [drcScanEnd, h]

theorem drcScanEnd_next (bytes : Vector Byte 32) (h : w.drc.scan.slot + 1 < 1920) :
    drcScanEnd (.done bytes) w = { w with
      drc := { w.drc with scan := { w.drc.scan.took bytes with slot := w.drc.scan.slot + 1 } }
      ask := some (.slotRead (w.drc.scan.slot + 1)) } := by
  simp [drcScanEnd, RingScan.took, ringSlots, h]

theorem drcScanEnd_last (bytes : Vector Byte 32) (h : ¬ w.drc.scan.slot + 1 < 1920) :
    drcScanEnd (.done bytes) w = finishRecovery (w.drc.scan.took bytes) w := by
  simp [drcScanEnd, RingScan.took, ringSlots, h]

/-- What a recovery comes to, below the last sequence number: the head behind the newest record, and its number's
successor next (R158). -/
theorem finishRecovery_drc (sc : RingScan) (w : DrcWork)
    (h : ∀ n at_, sc.newest = some (n, at_) → n < lastSequence) : let d := (finishRecovery sc w).drc
    d.state = .running ∧
    d.head = some (match sc.newest with
      | some (_, slot) => nextSlot slot
      | none => 0) ∧
    d.nextSeq = some ((sc.newest.map (·.1)).getD 0 + 1) ∧ d.oldest = sc.lowest ∧ d.restored = sc.sync.isSome ∧
    d.acc = (match sc.sync with
      | some (_, a) => w.drc.acc.plus a
      | none => w.drc.acc) := by
  have below : ¬ lastSequence ≤ (sc.newest.map (·.1)).getD 0 := by
    cases hn : sc.newest with
    | none => simp [lastSequence]
    | some x => simpa using h x.1 x.2 hn
  unfold finishRecovery
  dsimp only
  rw [if_neg (by simpa using below)]
  exact ⟨rfl, rfl, rfl, rfl, rfl, rfl⟩

/-- While the scan goes on nothing else begins. -/
theorem drcEnd_scanning (h : w.drc.state = .recovering) (hread : w.drc.read = none) (s : State) (scan : RingScan)
    (op : PortOp) : let e := drcEnd s { w with drc := { w.drc with scan := scan }, ask := some op }
    e.ask = some op ∧ e.drc.state = .recovering ∧ e.drc.scan = scan ∧ e.drc.acc = w.drc.acc := by
  intro e
  have ends := drcEnd_kept s { w with drc := { w.drc with scan := scan }, ask := some op }
  obtain ⟨ask, -, -⟩ := drcEnd_idle (w := { w with drc := { w.drc with scan := scan }, ask := some op })
    (by simp [hread]) (.inl (by simp [h])) s
  exact ⟨ask, ends.state.trans h, ends.scan, ends.acc⟩

end

/-! ## READ RECORDS (R160) -/

section
variable {w : DrcWork} {r : RingRead}

theorem drcSlotReadEnd_reading (h : w.drc.state = .running) (hread : w.drc.read = some r) (outcome : SlotEnd) :
    drcSlotReadEnd outcome w = drcReadEnd outcome r w := by
  simp [drcSlotReadEnd, h, hread]

/-- The entry that a slot's bytes give a reply: the record that is valid and carries the number read for, or none
(R160). -/
def RingRead.entry (r : RingRead) (bytes : Vector Byte 32) : Option (List Byte) :=
  if slotValid bytes.toList && rd32 bytes.toList 0 = r.cursor then some bytes.toList else none

theorem drcReadEnd_again (h : r.again = false) : drcReadEnd .noAnswer r w = { w with
    drc := { w.drc with read := some { r with again := true } }, ask := askRead w.drc r.cursor } := by
  simp [drcReadEnd, h]

theorem drcReadEnd_fails (h : r.again = true) : drcReadEnd .noAnswer r w = enterFailed 0 w := by
  simp [drcReadEnd, h]

theorem drcReadEnd_next (bytes : Vector Byte 32) (h : r.cursor < r.last) : drcReadEnd (.done bytes) r w = { w with
    drc := { w.drc with read := some { r with
      again := false, entries := r.entries ++ [r.entry bytes], cursor := r.cursor + 1 } }
    ask := askRead w.drc (r.cursor + 1) } := if_pos h

theorem drcReadEnd_last (bytes : Vector Byte 32) (h : ¬ r.cursor < r.last) : drcReadEnd (.done bytes) r w = { w with
    drc := { w.drc with read := none }
    reply := some (recordsReply w.drc (r.entries ++ [r.entry bytes])) } := if_neg h

/-- While READ RECORDS goes on no write begins. -/
theorem drcEnd_reading (h : r.issued = true) (s : State) (w : DrcWork) (op : Option PortOp) :
    let e := drcEnd s { w with drc := { w.drc with read := some r }, ask := op }
    e.drc.acc = w.drc.acc ∧ e.drc.read = some r ∧ e.reply = w.reply := by
  intro e
  have ends := drcEnd_kept s { w with drc := { w.drc with read := some r }, ask := op }
  obtain ⟨-, read, reply⟩ := drcEnd_idle (w := { w with drc := { w.drc with read := some r }, ask := op })
    (by simp [h]) (.inr (.inr (by simp))) s
  exact ⟨ends.acc, read, reply⟩

end

/-- Settles O47: the recovery scan and READ RECORDS, each by the outcome and by whether a slot is left to read. -/
theorem slotReadCompletes : Obligations.SlotReadCompletes := by
  intro dt outcome slot s hr hbusy
  let u := s.freed (s.now + dt)
  have acted : RecorderActed u (drcEnd u (drcSlotReadEnd outcome { drc := s.drc }))
      (u.drcTakes (drcSlotReadEnd outcome)).finish := State.drcTakes_finish (u := u) hr rfl _
  have failed := drcEnd_failed (w := enterFailed 0 { drc := s.drc }) rfl rfl u
  refine ⟨fun hstate hslot hread => ?scan, fun r tag hstate hread hissued hwrite hhead hnext hservice => ?records⟩
  all_goals refine ⟨_, exec_slotReadEnd hbusy dt outcome, acted.kept, ?_⟩
  case scan =>
    rw [acted.drc, acted.port, drcSlotReadEnd_recovering (w := { drc := s.drc }) hstate]
    subst hslot
    cases outcome with
    | noAnswer =>
      cases hagain : s.drc.scan.again with
      | true =>
        rw [drcScanEnd_fails (w := { drc := s.drc }) hagain, failed]
        exact ⟨rfl, rfl, rfl⟩
      | false =>
        obtain ⟨ask, state, scan, -⟩ := drcEnd_scanning (w := { drc := s.drc }) hstate hread u
          { s.drc.scan with again := true } (.slotRead s.drc.scan.slot)
        rw [drcScanEnd_again (w := { drc := s.drc }) hagain, ask]
        exact ⟨state, scan, Port.ask_drc _ _⟩
    | done bytes =>
      dsimp -zeta only
      intro sc
      by_cases hnext : s.drc.scan.slot + 1 < 1920
      · obtain ⟨ask, state, scan, acc⟩ := drcEnd_scanning (w := { drc := s.drc }) hstate hread u
          { s.drc.scan.took bytes with slot := s.drc.scan.slot + 1 } (.slotRead (s.drc.scan.slot + 1))
        rw [drcScanEnd_next (w := { drc := s.drc }) bytes hnext, ask, if_pos hnext]
        exact ⟨state, scan, acc, Port.ask_drc _ _⟩
      · rw [drcScanEnd_last (w := { drc := s.drc }) bytes hnext, if_neg hnext]
        have ends := drcEnd_kept u (finishRecovery sc { drc := s.drc })
        have recovered := finishRecovery_drc sc { drc := s.drc }
        have hsc : s.drc.scan.took bytes = sc := rfl
        rw [hsc]
        cases hnewest : sc.newest with
        | none =>
          obtain ⟨state, head, next, oldest, -⟩ := recovered (by simp [hnewest])
          rw [hnewest] at head next
          exact ⟨ends.state.trans state, ends.head.trans head, ends.nextSeq.trans next, ends.oldest.trans oldest⟩
        | some x =>
          intro hlast
          have below (n at_) (h : sc.newest = some (n, at_)) : n < lastSequence := by
            cases hnewest.symm.trans h
            exact hlast
          obtain ⟨state, head, next, oldest, restored, acc⟩ := recovered below
          rw [hnewest] at head next
          exact ⟨ends.state.trans state, ends.head.trans head, ends.nextSeq.trans next, ends.oldest.trans oldest,
            ends.restored.trans restored, ends.acc.trans acc⟩
  case records =>
    rw [acted.drc, acted.service, drcSlotReadEnd_reading (w := { drc := s.drc }) hstate hread]
    have hservice : u.lnk.service = some ⟨0x28#8, tag, none⟩ := hservice
    cases outcome with
    | noAnswer =>
      cases hagain : r.again with
      | true =>
        rw [drcReadEnd_fails hagain, failed]
        exact ⟨rfl, rfl, rfl, DrcWork.answers_service (by simp [enterFailed, hread]; rfl) hservice⟩
      | false =>
        obtain ⟨acc, read, reply⟩ := drcEnd_reading (r := { r with again := true }) hissued u { drc := s.drc }
          (askRead s.drc r.cursor)
        rw [drcReadEnd_again hagain, DrcWork.answers_none reply]
        exact ⟨acc, read, rfl⟩
    | done bytes =>
      by_cases hmore : r.cursor < r.last
      · obtain ⟨acc, read, reply⟩ := drcEnd_reading (r := { r with
          again := false, entries := r.entries ++ [r.entry bytes], cursor := r.cursor + 1 }) hissued u
          { drc := s.drc } (askRead s.drc (r.cursor + 1))
        rw [drcReadEnd_next bytes hmore, DrcWork.answers_none reply]
        exact ⟨acc, (if_pos hmore).mpr ⟨read, rfl⟩⟩
      · rw [drcReadEnd_last bytes hmore]
        obtain ⟨read, reply⟩ := drcEnd_noRead (w := {
          drc := { s.drc with read := none }
          reply := some (recordsReply s.drc (r.entries ++ [r.entry bytes])) }) rfl u
        exact ⟨(drcEnd_kept u _).acc, (if_neg hmore).mpr ⟨read, DrcWork.answers_service reply hservice⟩⟩

end Sys2Proof.Machine

end


section
/-! PROOFS. READ_RECORDS, MARK_RECORD and GET_ACCUMULATORS. -/

namespace Sys2Proof.Machine

open Sys2Proof.Safety

/-! ## The commands -/

theorem rd32_field32 (x : BitVec 32) (rest : List Byte) : rd32 (field32 x ++ rest) 0 = x.toNat :=
  rd32_be32 (Nat.le_of_lt_succ x.isLt) rest

/-- Where a request of the recorder's ends: the request is in service, answered if its event forms a reply. -/
theorem State.inService_drcTakes_finish {s : State} (h : LinkFree s) (time : Micros) (kind tag : Byte)
    (body : DrcWork → DrcWork) : RecorderActed (s.inService time kind tag)
      (drcEnd (s.inService time kind tag) (body { drc := s.drc }))
      ((s.inService time kind tag).drcTakes body).finish :=
  State.drcTakes_finish (u := s.inService time kind tag) h.2 rfl body

section
variable {s : State} (h : LinkFree s) (dt : Micros) (tag : Byte)
include h

theorem exec_readRecords (sequence : BitVec 32) (count : Byte) : exec (.readRecords dt tag sequence count) s =
    .next ((s.inService (s.now + dt) 0x28#8 tag).drcTakes
      (bodyReadRecords sequence.toNat count.toNat)).finish := by
  have kind : rd8 (field32 sequence ++ [count]) 4 = count.toNat :=
    rd8_append_right (length_be32 sequence.toNat) [count] 0
  rw [← rd32_field32 sequence [count], ← kind]
  exact exec_own (c := .readRecords dt tag sequence count) rfl h rfl rfl

theorem exec_markRecord (text : Vector Byte 16) : exec (.markRecord dt tag text) s =
    .next ((s.inService (s.now + dt) 0x2A#8 tag).drcTakes
      (bodyMark (s.inService (s.now + dt) 0x2A#8 tag) text.toList)).finish := by
  refine exec_own (c := .markRecord dt tag text) rfl h rfl ?_
  simp [lengthAllowed]

theorem exec_setTime (seconds : BitVec 32) : exec (.setTime dt tag seconds) s =
    .next ((s.inService (s.now + dt) 0x2B#8 tag).drcTakes
      (bodySetTime (s.inService (s.now + dt) 0x2B#8 tag) seconds.toNat)).finish := by
  rw [← rd32_field32 seconds [], List.append_nil]
  exact exec_own (c := .setTime dt tag seconds) rfl h rfl rfl

end

/-- An answer to the request that the recorder's event was asked for (R168). -/
theorem RecorderActed.answered {s t : State} {time : Micros} {kind tag : Byte} {w : DrcWork} {body : List Byte}
    (h : RecorderActed (s.inService time kind tag) w t) (reply : w.reply = some body) :
    t.lnk.service = some ⟨kind, tag, some (replyFrame kind tag body)⟩ :=
  h.service.trans (DrcWork.answers_service reply rfl)

/-- A request that leaves no READ RECORDS is answered with the reply of its body, and the accumulators stand where the
body leaves them. -/
theorem RecorderActed.atOnce {s t : State} {time : Micros} {kind tag : Byte} {w : DrcWork} {body : List Byte}
    (h : RecorderActed (s.inService time kind tag) (drcEnd (s.inService time kind tag) w) t)
    (hread : w.drc.read = none) (reply : w.reply = some body) :
    t.drc.acc = w.drc.acc ∧ t.lnk.service = some ⟨kind, tag, some (replyFrame kind tag body)⟩ :=
  ⟨(congrArg Drc.acc h.drc).trans (drcEnd_kept _ w).acc, h.answered ((drcEnd_noRead hread _).2.trans reply)⟩

/-! ## READ_RECORDS (R160) -/

section
variable {w : DrcWork} {sequence count : Nat}

/-- The reply that READ_RECORDS is given at once: by its count, or by the recorder's state (R160). -/
theorem bodyReadRecords_badCount (h : count < 1 ∨ 3 < count) :
    bodyReadRecords sequence count w = { w with reply := some [5#8] } := if_pos h

theorem bodyReadRecords_recovering (h : ¬ (count < 1 ∨ 3 < count)) (state : w.drc.state = .recovering) :
    bodyReadRecords sequence count w = { w with reply := some [8#8] } := by
  simp only [bodyReadRecords, if_neg h, state, Status.bytes]

theorem bodyReadRecords_failed (h : ¬ (count < 1 ∨ 3 < count)) (state : w.drc.state = .failed) :
    bodyReadRecords sequence count w = { w with reply := some [2#8, 8#8] } := by
  simp only [bodyReadRecords, if_neg h, state, Status.bytes, Reason.bytes]

theorem bodyReadRecords_running (h : ¬ (count < 1 ∨ 3 < count)) (state : w.drc.state = .running) :
    bodyReadRecords sequence count w = { w with drc := { w.drc with
      read := some ⟨sequence, count, false, sequence, sequence, false, []⟩ } } := by
  simp only [bodyReadRecords, if_neg h, state]

end

/-- A read that is not in the ring, by the oldest and the newest number (R160). -/
def Drc.Outside (d : Drc) (sequence : Nat) : Prop :=
  d.oldest = none ∨ sequence < d.oldest.getD 0 ∨ d.nextSeq.getD 1 - 1 < sequence

section
variable {w : DrcWork} {r : RingRead} (hread : w.drc.read = some r) (hissued : r.issued = false)
  (hwrite : w.drc.write = none)
include hread hissued hwrite

theorem issueRead_outside (h : w.drc.Outside r.sequence) : issueRead w = { w with
    drc := { w.drc with read := none }
    reply := some ([2#8, 7#8] ++ be32 (w.drc.oldest.getD 0) ++ be32 (w.drc.nextSeq.getD 1 - 1)) } := by
  have h : w.drc.oldest.isNone ∨ r.sequence < w.drc.oldest.getD 0 ∨ w.drc.newest < r.sequence := by
    simpa [Drc.Outside, Drc.newest] using h
  simp only [issueRead, hread, hwrite, hissued, if_pos h]
  rfl

theorem issueRead_inside (h : ¬ w.drc.Outside r.sequence) : issueRead w = { w with
    drc := { w.drc with read := some { r with
      issued := true, cursor := r.sequence
      last := min (r.sequence + r.count - 1) (w.drc.nextSeq.getD 1 - 1) } }
    ask := askRead w.drc r.sequence } := by
  have h : ¬ (w.drc.oldest.isNone ∨ r.sequence < w.drc.oldest.getD 0 ∨ w.drc.newest < r.sequence) := by
    simpa [Drc.Outside, Drc.newest] using h
  simp only [issueRead, hread, hwrite, hissued, if_neg h]
  rfl

/-- A range test that fails is answered at the end of the event. -/
theorem drcEnd_outside (s : State) (h : w.drc.Outside r.sequence) : (drcEnd s w).reply =
    some ([2#8, 7#8] ++ be32 (w.drc.oldest.getD 0) ++ be32 (w.drc.nextSeq.getD 1 - 1)) := by
  obtain ⟨queue, lost, hlost⟩ := addLost_eq s w
  have refused := issueRead_outside (w := { w with drc := { w.drc with queue := queue, lostCount := lost } })
    hread hissued hwrite h
  rw [drcEnd, hlost, refused]
  obtain hb | ⟨n, r', fromQueue, hb⟩ := beginWrite_cases s _ <;> rw [hb]
  exact (startWrite_read s n r' fromQueue _).2

/-- A read in the ring is issued at the end of the event, and no write begins beside it. -/
theorem drcEnd_inside (s : State) (h : ¬ w.drc.Outside r.sequence) : (drcEnd s w).reply = w.reply ∧
    (drcEnd s w).drc.read = some { r with
      issued := true, cursor := r.sequence
      last := min (r.sequence + r.count - 1) (w.drc.nextSeq.getD 1 - 1) } := by
  obtain ⟨queue, lost, hlost⟩ := addLost_eq s w
  have issued := issueRead_inside (w := { w with drc := { w.drc with queue := queue, lostCount := lost } })
    hread hissued hwrite h
  rw [drcEnd, hlost, issued, beginWrite_idle (.inr (.inr (by simp)))]
  exact ⟨rfl, rfl⟩

end

/-! ## MARK_RECORD (R162) -/

section
variable (s : State) {w : DrcWork} (text : List Byte)

theorem bodyMark_failed (h : w.drc.state = .failed) : bodyMark s text w = { w with reply := some [2#8, 8#8] } :=
  if_pos h

theorem bodyMark_full (h : w.drc.state ≠ .failed) (full : 16 ≤ w.drc.queue.length) :
    bodyMark s text w = { w with reply := some [8#8] } := by
  rw [bodyMark, if_neg h]
  exact if_pos full

theorem bodyMark_staged (h : w.drc.state ≠ .failed) (room : ¬ 16 ≤ w.drc.queue.length) : bodyMark s text w = { w with
    drc := { w.drc with queue := w.drc.queue ++ [s.stamp (.hostMark text)] }, reply := some [0#8] } := by
  have room' : w.drc.queue.length < stagingCapacity := Nat.lt_of_not_le room
  rw [bodyMark, if_neg h, if_neg (Nat.not_le.2 room'), Drc.stage, if_neg h, if_pos room']
  rfl

/-- With the queue full no LOST record joins it (R155). -/
theorem drcEnd_queue_full (full : 16 ≤ w.drc.queue.length) (hread : w.drc.read = none) :
    (drcEnd s w).drc.queue = w.drc.queue := by
  have full : ¬ w.drc.queue.length < stagingCapacity := Nat.not_lt.2 full
  have lost : addLost s w = w := by simp [addLost, full]
  rw [drcEnd, lost, issueRead_none hread]
  obtain h | ⟨n, r, fromQueue, h⟩ := beginWrite_cases s w <;> rw [h]
  unfold startWrite
  dsimp only
  split <;> rfl

end

/-! ## GET_ACCUMULATORS (R161) -/

theorem State.own_getAccumulators (s : State) : s.own 0x29 [] = s.answer (0#8 :: accumulatorsReply s) :=
  s.answerOk_eq _

/-- Settles O48, by the tests of each request in order. -/
theorem recorderRequestsComplete : Obligations.RecorderRequestsComplete := by
  intro dt tag s hfree hread answered
  refine ⟨fun sequence count hwrite => ?read, fun text => ?mark, ?accumulators⟩
  case read =>
    let u := s.inService (s.now + dt) 0x28#8 tag
    have acted : RecorderActed u (drcEnd u (bodyReadRecords sequence.toNat count.toNat { drc := s.drc }))
        (u.drcTakes (bodyReadRecords sequence.toNat count.toNat)).finish :=
      State.inService_drcTakes_finish hfree _ _ _ _
    refine ⟨_, exec_readRecords hfree dt tag sequence count, acted.kept, ?_⟩
    by_cases hcount : count.toNat < 1 ∨ 3 < count.toNat
    case pos =>
      rw [if_pos hcount]
      rw [bodyReadRecords_badCount hcount] at acted
      exact acted.atOnce hread rfl
    rw [if_neg hcount]
    cases hstate : s.drc.state with
    | recovering =>
      rw [bodyReadRecords_recovering (w := { drc := s.drc }) hcount hstate] at acted
      exact acted.atOnce hread rfl
    | failed =>
      rw [bodyReadRecords_failed (w := { drc := s.drc }) hcount hstate] at acted
      exact acted.atOnce hread rfl
    | running =>
      rw [bodyReadRecords_running (w := { drc := s.drc }) hcount hstate] at acted
      refine ⟨(congrArg Drc.acc acted.drc).trans (drcEnd_kept u _).acc, ?_⟩
      by_cases hout : s.drc.Outside sequence.toNat
      · have refused := drcEnd_outside (w := { drc := { s.drc with
          read := some ⟨sequence.toNat, count.toNat, false, sequence.toNat, sequence.toNat, false, []⟩ } })
          rfl rfl hwrite u hout
        exact (if_pos hout).mpr (acted.answered refused)
      · obtain ⟨reply, read⟩ := drcEnd_inside (w := { drc := { s.drc with
          read := some ⟨sequence.toNat, count.toNat, false, sequence.toNat, sequence.toNat, false, []⟩ } })
          rfl rfl hwrite u hout
        refine (if_neg hout).mpr ⟨?_, _, rfl, (congrArg Drc.read acted.drc).trans read⟩
        rw [acted.service, DrcWork.answers_none reply]
        rfl
  case mark =>
    let u := s.inService (s.now + dt) 0x2A#8 tag
    have acted : RecorderActed u (drcEnd u (bodyMark u text.toList { drc := s.drc }))
        (u.drcTakes (bodyMark u text.toList)).finish := State.inService_drcTakes_finish hfree _ _ _ _
    refine ⟨_, exec_markRecord hfree dt tag text, acted.kept, ?_⟩
    by_cases hfailed : s.drc.state = .failed
    case pos =>
      rw [bodyMark_failed u (w := { drc := s.drc }) text.toList hfailed] at acted
      obtain ⟨acc, reply⟩ := acted.atOnce hread rfl
      have unchanged := drcEnd_failed (w := { drc := s.drc, reply := some [2#8, 8#8] }) hfailed hread u
      rw [if_pos hfailed]
      exact ⟨acc, reply, congrArg Drc.queue (acted.drc.trans (congrArg DrcWork.drc unchanged))⟩
    rw [if_neg hfailed]
    by_cases hfull : 16 ≤ s.drc.queue.length
    · rw [bodyMark_full u (w := { drc := s.drc }) text.toList hfailed hfull] at acted
      obtain ⟨acc, reply⟩ := acted.atOnce hread rfl
      rw [if_pos hfull]
      exact ⟨acc, reply, (congrArg Drc.queue acted.drc).trans
        (drcEnd_queue_full u (w := { drc := s.drc, reply := some [8#8] }) hfull hread)⟩
    · rw [bodyMark_staged u (w := { drc := s.drc }) text.toList hfailed hfull] at acted
      obtain ⟨acc, reply⟩ := acted.atOnce hread rfl
      obtain ⟨rest, queue⟩ := (drcEnd_kept u _).queue
      rw [if_neg hfull]
      refine ⟨acc, reply, rest, (congrArg Drc.queue acted.drc).trans (queue.trans ?_)⟩
      exact List.append_assoc _ _ _
  case accumulators =>
    exact exec_answered (c := .getAccumulators dt tag) hfree rfl rfl rfl (State.own_getAccumulators _)

end Sys2Proof.Machine

end


section
/-! PROOFS. SET_TIME and the time base. -/

namespace Sys2Proof.Machine

open Sys2Proof.Safety

/-! ## What the time base reads (R152, R163) -/

theorem fullSeconds_eq {now setAt n : Nat} (low : setAt + n * 1000000 ≤ now) (high : now < setAt + (n + 1) * 1000000) :
    (now - setAt) / 1000000 = n := Nat.div_eq_of_lt_le (by omega) (by omega)

/-- A base set at a time reads one more with each full second since, up to the largest value. -/
theorem State.seconds_since {u : State} {base setAt : Nat} {synced : Bool} (h : u.drc.timeBase = ⟨base, setAt, synced⟩)
    {n : Nat} (low : setAt + n * 1000000 ≤ u.now) (high : u.now < setAt + (n + 1) * 1000000) :
    u.seconds = min 4294967295 (base + n) := by
  simp [State.seconds, saturate, h, fullSeconds_eq low high]

/-- A record produced under a synced base carries no UNSYNCED (R152). -/
theorem State.stamp_synced {u : State} (h : u.drc.timeBase.synced = true) (body : RecordBody) :
    u.stamp body = ⟨u.seconds, false, body⟩ := by
  simp [State.stamp, h]

/-- A notice that is neither masked nor lost joins the queue with the time base's reading (R163, R173). -/
theorem State.notify_joined {u : State} {n : News} (masked : u.lnk.masked n.kind = false)
    (room : u.lnk.notices.length < 32) :
    (u.notify [n]).lnk.notices = u.lnk.notices ++ [⟨n.kind, u.seconds, n.subject, n.values⟩] := by
  have room : u.lnk.notices.length < noticeCapacity := room
  simp [Lnk.post, masked, room]

/-! ## SET_TIME -/

section
variable (s : State)

theorem bodySetTime_zero {seconds : Nat} (h : seconds = 0) (w : DrcWork) :
    bodySetTime s seconds w = { w with reply := some [5#8] } := if_pos h

theorem bodySetTime_sets {seconds : Nat} (h : seconds ≠ 0) (w : DrcWork) : bodySetTime s seconds w =
    { w with drc := { w.drc with timeBase := ⟨seconds, s.now, true⟩ }, reply := some [0#8] } := if_neg h

/-- Neither the queue nor the accumulators nor a READ RECORDS is touched. -/
theorem bodySetTime_frame (seconds : Nat) (w : DrcWork) : let d := (bodySetTime s seconds w).drc
    d.acc = w.drc.acc ∧ d.queue = w.drc.queue ∧ d.read = w.drc.read := by
  unfold bodySetTime
  split <;> exact ⟨rfl, rfl, rfl⟩

end

/-! ## The newer of two records (R163) -/

/-- A valid record is the newest of the scan when its number is above that of the newest so far, whatever their
times. -/
theorem scanSlot_newest (sc : RingScan) {n : Nat} {a : Accumulators} {r : Record} (h1 : 1 ≤ n) (hn : n ≤ lastSequence) :
    (scanSlot sc (recordBytes n a r)).newest =
      match sc.newest with
      | some (m, at_) => if m < n then some (n, sc.slot) else some (m, at_)
      | none => some (n, sc.slot) := by
  have valid := slotValid_recordBytes n a r h1 hn
  have number := rd32_recordBytes_sequence n a r hn
  cases hs : sc.newest with
  | none => simp [scanSlot, valid, number, hs]
  | some x => simp [scanSlot, valid, number, hs]

/-- Settles O49: the base as the request sets it, the newer record by its number, and the base after a reset. -/
theorem setTimeSetsTheTimeBase : Obligations.SetTimeSetsTheTimeBase := by
  refine ⟨fun dt tag seconds s hfree hread => ?request, fun n a r sc h1 hn _ => scanSlot_newest sc h1 hn, rfl, rfl,
    fun rate faults schedule pending => ⟨rfl, rfl⟩⟩
  let u := s.inService (s.now + dt) 0x2B#8 tag
  have acted : RecorderActed u (drcEnd u (bodySetTime u seconds.toNat { drc := s.drc }))
      (u.drcTakes (bodySetTime u seconds.toNat)).finish := State.inService_drcTakes_finish hfree _ _ _ _
  have ends := drcEnd_kept u (bodySetTime u seconds.toNat { drc := s.drc })
  obtain ⟨acc, queue, read⟩ := bodySetTime_frame u seconds.toNat { drc := s.drc }
  have base := (congrArg Drc.timeBase acted.drc).trans ends.timeBase
  refine ⟨_, exec_setTime hfree dt tag seconds, acted.kept, acted.now, ?_, fun r hr => ?_, fun hzero => ?_,
    fun hset => ?_⟩
  · exact (congrArg Drc.acc acted.drc).trans (ends.acc.trans acc)
  · obtain ⟨rest, staged⟩ := ends.queue
    rw [acted.drc, staged, queue]
    exact List.mem_append_left _ hr
  · rw [bodySetTime_zero u hzero] at acted base
    exact ⟨base, (acted.atOnce hread rfl).2⟩
  · rw [bodySetTime_sets u hset] at acted base
    refine ⟨(acted.atOnce hread rfl).2, congrArg TimeBase.synced base, fun v hv => ?_⟩
    have hv := hv.trans base
    exact ⟨fun n low high => State.seconds_since hv (acted.now ▸ low) (acted.now ▸ high),
      State.stamp_synced (congrArg TimeBase.synced hv), fun n masked room => State.notify_joined masked room⟩

end Sys2Proof.Machine

end


section
/-! PROOFS. The notice queue, ATTN#, the mask and the link counters: every step keeps them within their bounds. -/

namespace Sys2Proof.Machine

open Sys2Proof.Safety

/-! ## The bounds as a law of the Link Unit alone (R166, R173, R174) -/

structure LinkFaults.Bounded (x : LinkFaults) : Prop where
  gap : x.gap ≤ 65535
  crc : x.crc ≤ 65535
  length : x.length ≤ 65535
  byteError : x.byteError ≤ 65535
  overrun : x.overrun ≤ 65535

structure Lnk.Bounded (l : Lnk) : Prop where
  notices : l.notices.length ≤ noticeCapacity
  attn : l.attnLow = !l.notices.isEmpty
  lost : l.lost ≤ 65535
  mask : l.mask.toNat < 4096
  faults : l.faults.Bounded

theorem linkBounded_iff (s : State) : s.lnk.Bounded ↔ NoticesKept s ∧ CountersBounded s :=
  ⟨fun ⟨notices, attn, lost, mask, ⟨gap, crc, length, byteError, overrun⟩⟩ =>
      ⟨⟨notices, attn, lost, mask⟩, ⟨gap, crc, length, byteError, overrun⟩⟩,
    fun ⟨⟨notices, attn, lost, mask⟩, ⟨gap, crc, length, byteError, overrun⟩⟩ =>
      ⟨notices, attn, lost, mask, ⟨gap, crc, length, byteError, overrun⟩⟩⟩

theorem noFaults_bounded : noFaults.Bounded :=
  ⟨Nat.zero_le _, Nat.zero_le _, Nat.zero_le _, Nat.zero_le _, Nat.zero_le _⟩

/-- A reset empties the queue and clears the mask; the counters are those it is given (R166, R177). -/
theorem Lnk.reset_bounded {faults : LinkFaults} (h : faults.Bounded) (baudHigh : Bool) :
    (Lnk.reset baudHigh faults).Bounded :=
  ⟨Nat.zero_le _, rfl, Nat.zero_le _, show (0#16).toNat < 4096 by decide, h⟩

namespace LinkFaults.Bounded

variable {x : LinkFaults} (h : x.Bounded)
include h

theorem addGap : x.addGap.Bounded := { h with gap := saturate_le _ _ }

theorem addCrc : x.addCrc.Bounded := { h with crc := saturate_le _ _ }

theorem addLength : x.addLength.Bounded := { h with length := saturate_le _ _ }

theorem addByteError : x.addByteError.Bounded := { h with byteError := saturate_le _ _ }

theorem addOverrun : LinkFaults.Bounded { x with overrun := saturate 65535 (x.overrun + 1) } :=
  { h with overrun := saturate_le _ _ }

end LinkFaults.Bounded

/-! ## The operations of the Link Unit -/

namespace Lnk.Bounded

variable {l : Lnk} (h : l.Bounded)
include h

/-- The receiver, the receive buffer and a pending restart are free. -/
theorem buffers (rx : Option (List Byte)) (gapTimer : Timer) (service : Option Service) (waiting : Option Frame)
    (restart : Option RestartWait) : Lnk.Bounded { l with
      rx := rx, gapTimer := gapTimer, service := service, waiting := waiting, restart := restart } :=
  ⟨h.notices, h.attn, h.lost, h.mask, h.faults⟩

theorem counters {faults : LinkFaults} (hf : faults.Bounded) : Lnk.Bounded { l with faults := faults } :=
  ⟨h.notices, h.attn, h.lost, h.mask, hf⟩

theorem discard {faults : LinkFaults} (hf : faults.Bounded) : (l.discard faults).Bounded :=
  (h.counters hf).buffers _ _ _ _ _

theorem answer (body : List Byte) : (l.answer body).Bounded := by
  unfold Lnk.answer
  split
  · exact h.buffers _ _ _ _ _
  · exact h

/-- A notice joins a queue that is not full, or counts as lost (R173). -/
theorem post (time : Nat) (n : News) : (l.post time n).Bounded := by
  obtain ⟨-, he⟩ | ⟨-, room, he⟩ | ⟨-, -, he⟩ := l.post_cases time n <;> rw [he]
  · exact h
  · exact ⟨by simpa using room, by simp, h.lost, h.mask, h.faults⟩
  · exact ⟨h.notices, h.attn, saturate_le _ _, h.mask, h.faults⟩

theorem posts (news : List News) (time : Nat) : (news.foldl (fun l n => l.post time n) l).Bounded := by
  induction news generalizing l with
  | nil => exact h
  | cons n news ih => exact ih (h.post time n)

/-- Removing notices makes the room that a NOTICES_LOST takes (R173). -/
theorem keep (time : Nat) (kept : List Notice) : (l.keep time kept).Bounded := by
  unfold Lnk.keep Lnk.afterRemoval
  split
  case isTrue fewer =>
    have room : kept.length < noticeCapacity := fewer.trans_le h.notices
    dsimp only
    split
    · exact ⟨by simpa using room, rfl, Nat.zero_le _, h.mask, h.faults⟩
    · exact ⟨room.le, rfl, h.lost, h.mask, h.faults⟩
  case isFalse => exact h

/-- A mask that is taken sets no bit of NOTICES_LOST or of no kind (R174). -/
theorem masked {mask : BitVec 16} (taken : maskTaken mask = true) : Lnk.Bounded { l with mask := mask } :=
  ⟨h.notices, h.attn, h.lost, by simpa [maskTaken] using taken, h.faults⟩

end Lnk.Bounded

/-! ## Requests

What another unit's event does to the Link Unit is to hand it notices. -/

section
variable {s : State} (h : s.lnk.Bounded)
include h

theorem State.onDrive_linkBounded (b : Byte) {f : Drive → State} (hf : ∀ d, (f d).lnk.Bounded) :
    (s.onDrive b f).lnk.Bounded := by
  unfold State.onDrive
  split
  · exact hf _
  · exact h.answer _

theorem State.clearFill_linkBounded : s.clearFill.lnk.Bounded := by
  unfold State.clearFill
  split
  · exact (h.posts _ _).answer _
  · exact h.answer _

theorem State.getTank_linkBounded (tank : Nat) : (s.getTank tank).lnk.Bounded := by
  unfold State.getTank
  split <;> exact h.answer _

theorem State.setMask_linkBounded (mask : BitVec 16) : (s.setMask mask).lnk.Bounded := by
  unfold State.setMask
  split
  case isTrue taken => exact ((h.masked taken).keep _ _).answer _
  case isFalse => exact h.answer _

theorem State.requestRestart_linkBounded : s.requestRestart.lnk.Bounded := by
  unfold State.requestRestart
  split
  · exact h.answer _
  split
  · exact h.answer _
  · exact (h.buffers _ _ _ _ _).answer _

/-- A request passed to its owner: it is answered, at once or later, and the notices of its event are handed over. -/
theorem State.own_linkBounded (kind : Nat) (b : List Byte) : (s.own kind b).lnk.Bounded := by
  unfold State.own
  split
  case h_1 | h_2 | h_14 | h_16 => exact h.answer _
  case h_3 => exact State.getTank_linkBounded h _
  case h_4 => exact (h.keep _ _).answer _
  case h_5 => exact State.setMask_linkBounded h _
  case h_6 | h_7 => exact State.onDrive_linkBounded h _ fun _ => (h.posts _ _).answer _
  case h_8 | h_9 | h_11 | h_12 | h_13 => exact (h.posts _ _).answer _
  case h_10 => exact State.clearFill_linkBounded h
  case h_15 | h_17 | h_18 | h_19 | h_20 | h_21 | h_22 => exact h.posts _ _
  case h_23 => exact State.requestRestart_linkBounded h
  case h_24 => exact h

theorem State.serve_linkBounded (f : Frame) : (s.serve f).lnk.Bounded := by
  unfold State.serve
  dsimp only
  have inService : Lnk.Bounded { s.lnk with service := some ⟨f.kind, f.tag, none⟩ } := h.buffers _ _ _ _ _
  split
  · exact inService.answer _
  split
  · exact inService.answer _
  · refine State.own_linkBounded ?_ _ _
    exact inService

theorem State.offerFrame_linkBounded (f : Frame) : (s.offerFrame f).lnk.Bounded := by
  unfold State.offerFrame
  split
  · exact State.serve_linkBounded h f
  split
  · exact h.buffers _ _ _ _ _
  · exact h.counters h.faults.addOverrun

theorem State.replySent_linkBounded : s.replySent.lnk.Bounded := by
  unfold State.replySent
  split
  · split
    · exact h.buffers _ _ _ _ _
    · refine State.serve_linkBounded ?_ _
      exact h.buffers _ _ _ _ _
    · exact h.buffers _ _ _ _ _
  · exact h

theorem State.assemble_linkBounded (sofar : List Byte) (b : Byte) : (s.assemble sofar b).lnk.Bounded := by
  unfold State.assemble
  dsimp only
  split
  · exact h.discard h.faults.addLength
  split
  · exact h.buffers _ _ _ _ _
  split
  · exact State.offerFrame_linkBounded (h.discard h.faults) _
  · exact h.discard h.faults.addCrc

theorem State.receive_linkBounded (b : Byte) (framingError : Bool) : (s.receive b framingError).lnk.Bounded := by
  unfold State.receive
  dsimp only
  split
  · split
    · exact h.buffers _ _ _ _ _
    · exact h
  split
  · exact h.discard h.faults.addByteError
  · exact State.assemble_linkBounded h _ b

/-! ## The ends of the port's operations, and publications -/

theorem State.slotWriteEnded_linkBounded (outcome : WriteEnd) : (s.slotWriteEnded outcome).lnk.Bounded := by
  unfold State.slotWriteEnded
  split
  · exact h.posts _ _
  · exact h

theorem State.slotReadEnded_linkBounded (outcome : SlotEnd) : (s.slotReadEnded outcome).lnk.Bounded := by
  unfold State.slotReadEnded
  split
  · exact h.posts _ _
  · exact h

theorem State.pageReadEnded_linkBounded (outcome : PageEnd) : (s.pageReadEnded outcome).lnk.Bounded := by
  unfold State.pageReadEnded
  split
  · exact h.posts _ _
  · exact h

theorem State.pageWriteEnded_linkBounded (outcome : WriteEnd) : (s.pageWriteEnded outcome).lnk.Bounded := by
  unfold State.pageWriteEnded
  split
  · exact h.posts _ _
  · exact h

/-- What the Link Unit hears is a reply or that the recorder is ready. -/
theorem Lnk.Bounded.hears (e : Event) : (s.lnk.hears e).Bounded := by
  cases e with
  | reply body => exact h.answer body
  | restartReady => exact h.buffers _ _ _ _ _
  | _ => exact h

/-- A publication taken by any block. -/
theorem State.deliver_linkBounded (b : Block) (e : Event) : (s.deliver b e).lnk.Bounded := by
  cases b with
  | isu | tgu => cases e <;> exact h
  | lnk =>
    rw [State.deliver, State.lnkEvent_eq]
    exact h.hears e
  | lbu =>
    obtain he | ⟨b, r, he⟩ := s.lbuEvent_cases e <;> rw [State.deliver, he]
    exacts [h, h.posts _ _]
  | deu =>
    obtain he | ⟨w, he⟩ := s.deuEvent_cases e <;> rw [State.deliver, he]
    exacts [h, h.posts _ _]
  | ppu =>
    obtain he | ⟨w, he⟩ := s.ppuEvent_cases e <;> rw [State.deliver, he]
    exacts [h, h.posts _ _]
  | lku =>
    obtain he | ⟨w, he⟩ := s.lkuEvent_cases e <;> rw [State.deliver, he]
    exacts [h, h.posts _ _]
  | tau =>
    obtain he | ⟨w, he⟩ := s.tauEvent_cases e <;> rw [State.deliver, he]
    exacts [h, h.posts _ _]
  | drc =>
    obtain he | ⟨w, he⟩ := s.drcEvent_cases e <;> rw [State.deliver, he]
    exacts [h, h.posts _ _]
  | pfu =>
    obtain he | he := s.pfuEvent_cases e <;> rw [State.deliver, he]
    exacts [h, h.posts _ _]

/-- The end of a command; a soft restart keeps the counters (R166). -/
theorem State.finish_linkBounded : s.finish.lnk.Bounded := by
  have settled : (settle Config.settleBound s).lnk.Bounded :=
    settle_keeps_all (fun t => t.lnk.Bounded) (fun _ ht => ht)
      (fun t b e left ht => State.deliver_linkBounded
        (s := { t with agenda := left, schedule := t.schedule.drop 1 }) ht b e) _ s h
  rw [State.finish]
  obtain hr | ⟨-, hr⟩ := State.restartIfDue_cases (settle Config.settleBound s) <;> rw [hr]
  · exact settled
  · exact Lnk.reset_bounded settled.faults _

/-! ## Commands -/

theorem ownEffect_linkBounded (c : Instr) : (ownEffect c s).lnk.Bounded := by
  cases c with
  | powerOnReset | pinReset => exact Lnk.reset_bounded noFaults_bounded _
  | gapTimerExpiry => exact h.discard h.faults.addGap
  | hlrxByte _ b framingError => exact State.receive_linkBounded h b framingError
  | replySent => exact State.replySent_linkBounded h
  | halfPageWriteEnd _ outcome => exact State.slotWriteEnded_linkBounded h outcome
  | slotReadEnd _ outcome => exact State.slotReadEnded_linkBounded h outcome
  | pageReadEnd _ outcome => exact State.pageReadEnded_linkBounded h outcome
  | pageWriteEnd _ outcome => exact State.pageWriteEnded_linkBounded h outcome
  | pulse | holdTimerExpiry | stillTimerExpiry => exact h
  | scan | gaugeCycle | recoveryTimerExpiry | recloseTimerExpiry | lowPressureTimerExpiry | noRiseTimerExpiry
  | permissiveTimerExpiry | confirmTimerExpiry | retryOffExpiry | restoreTimerExpiry | idleTimerExpiry
  | positionTimerExpiry | overspeedTimerExpiry | slipTimerExpiry | stallTimerExpiry | persistTimerExpiry
  | dryTimerExpiry | dryRunClearExpiry | overrideTimerExpiry | transferTimerExpiry | reclaimTimerExpiry
  | syncTimerExpiry => exact h.posts _ _
  | _ => exact State.offerFrame_linkBounded h _

theorem exec_linkBounded {c : Instr} {t : State} (ht : exec c s = .next t) : t.lnk.Bounded := by
  obtain he | ⟨-, he⟩ | ⟨-, time, -, he⟩ := exec_cases c s <;> cases he.symm.trans ht
  · exact h
  · exact ownEffect_linkBounded h c
  · exact State.finish_linkBounded (ownEffect_linkBounded (s := s.beginAt time) h c)

end

/-- Settles O8: every operation of the Link Unit keeps its bounds, and the other units only hand it notices and
replies. -/
theorem stepKeepsNoticesAndCounters : Obligations.StepKeepsNoticesAndCounters := by
  intro s t notices counters ht
  have h : s.lnk.Bounded := (linkBounded_iff s).2 ⟨notices, counters⟩
  refine (linkBounded_iff t).1 ?_
  unfold step at ht
  split at ht
  case h_1 =>
    cases ht
    exact h
  case h_2 rest _ => exact exec_linkBounded (s := { s with pending := rest }) h ht

end Sys2Proof.Machine

end


section
/-! PROOFS. The receive buffer: a request that finds the link taken waits or overruns. -/

namespace Sys2Proof.Machine

open Sys2Proof.Safety

/-! ## Commands that end in the Link Unit -/

/-- What a command leaves that changes the Link Unit alone: it has begun, and the Link Unit stands as given. -/
def State.linked (s : State) (time : Micros) (l : Lnk) : State := { s.beginAt time with lnk := l }

/-- No restart takes place whose reply or whose recorder is still awaited (R171). -/
theorem State.restartIfDue_awaited {s : State} (h : s.lnk.restart ≠ some ⟨true, true⟩) : s.restartIfDue = s := by
  obtain he | ⟨due, -⟩ := s.restartIfDue_cases
  · exact he
  · exact absurd due h

theorem State.linked_finish {l : Lnk} (h : l.restart ≠ some ⟨true, true⟩) (s : State) (time : Micros) :
    (s.linked time l).finish = s.linked time l := by
  rw [State.finish, settle_quiet (s := s.linked time l) rfl, State.restartIfDue_awaited h]

/-! ## A frame that finds the link taken (R167, R171) -/

section
variable {s : State} (taken : s.lnk.service ≠ none ∨ s.lnk.restart ≠ none) (f : Frame)
include taken

theorem State.offerFrame_waits (empty : s.lnk.waiting = none) :
    s.offerFrame f = { s with lnk := { s.lnk with waiting := some f } } := by
  obtain h | h := taken <;> simp [State.offerFrame, h, empty]

theorem State.offerFrame_overruns (full : s.lnk.waiting ≠ none) : s.offerFrame f =
    { s with lnk := { s.lnk with faults := { s.lnk.faults with
      overrun := min 65535 (s.lnk.faults.overrun + 1) } } } := by
  obtain h | h := taken <;> simp [State.offerFrame, h, full, saturate]

end

/-- Settles O14: the frame waits where none does, and otherwise counts as an overrun; the command ends there. -/
theorem requestWaitsOrOverruns : Obligations.RequestWaitsOrOverruns := by
  intro c dt f s hc taken awaited
  have taken : (s.beginAt (s.now + dt)).lnk.service ≠ none ∨ (s.beginAt (s.now + dt)).lnk.restart ≠ none := taken
  refine ⟨fun empty => ?waits, fun full => ?overruns⟩
  case waits =>
    rw [exec_request hc, State.offerFrame_waits taken f empty]
    exact congrArg _ (State.linked_finish (l := { s.lnk with waiting := some f }) awaited s _)
  case overruns =>
    rw [exec_request hc, State.offerFrame_overruns taken f full]
    exact congrArg _ (State.linked_finish (l := { s.lnk with faults := { s.lnk.faults with
      overrun := min 65535 (s.lnk.faults.overrun + 1) } }) awaited s _)

end Sys2Proof.Machine

end


section
/-! PROOFS. The receiver: its table, and the bytes of a frame taken one after another. -/

namespace Sys2Proof.Machine

open Sys2Proof.Safety

/-! ## The receiver's table (R165, R166) -/

/-- The frame under assembly after one more byte, the gap timer restarted. -/
def State.assembling (s : State) (bytes : List Byte) : State :=
  { s with lnk := { s.lnk with rx := some bytes, gapTimer := .running (s.now + 20000) } }

section
variable {s : State}

/-- In HUNTING a sync byte received correctly begins a frame. -/
theorem State.receive_sync (h : s.lnk.rx = none) : s.receive 0xA5#8 false = s.assembling [] := by
  simp only [State.receive, h]
  rfl

/-- Any other byte is passed over. -/
theorem State.receive_hunting (h : s.lnk.rx = none) {b : Byte} {err : Bool} (other : ¬ (b = 0xA5#8 ∧ err = false)) :
    s.receive b err = s := by
  have other : ¬ (b = 0xA5#8 ∧ (!err) = true) := by simpa using other
  simp only [State.receive, h, if_neg other]

theorem State.receive_error {sofar : List Byte} (h : s.lnk.rx = some sofar) (b : Byte) :
    s.receive b true = { s with lnk := s.lnk.discard s.lnk.faults.addByteError } := by
  simp only [State.receive, h, if_true]

theorem State.receive_assembles {sofar : List Byte} (h : s.lnk.rx = some sofar) (b : Byte) :
    s.receive b false = s.assemble sofar b := by
  simp [State.receive, h]

variable (s)

/-- The first byte of a frame is its length. -/
theorem State.assemble_tooLong {b : Byte} (long : 120 < b.toNat) :
    s.assemble [] b = { s with lnk := s.lnk.discard s.lnk.faults.addLength } := if_pos ⟨rfl, long⟩

theorem State.assemble_length {b : Byte} (fits : ¬ 120 < b.toNat) : s.assemble [] b = s.assembling [b] := by
  have more : [b].length < rd8 [b] 0 + 5 := by simp
  simp only [State.assemble, List.isEmpty_nil, true_and, if_neg fits, List.nil_append, if_pos more]
  rfl

section
variable {len : Byte} {sofar : List Byte} {b : Byte}

/-- A byte that leaves the frame incomplete is kept. -/
theorem State.assemble_more (more : (len :: sofar ++ [b]).length < len.toNat + 5) :
    s.assemble (len :: sofar) b = s.assembling (len :: sofar ++ [b]) := by
  have more : (len :: sofar ++ [b]).length < rd8 (len :: sofar ++ [b]) 0 + 5 := more
  simp only [State.assemble, List.isEmpty_cons, Bool.false_eq_true, false_and, if_false, if_pos more]
  rfl

/-- The last byte of a frame settles it by its CRC (R187). -/
theorem State.assemble_last (last : (len :: sofar ++ [b]).length = len.toNat + 5) :
    s.assemble (len :: sofar) b =
      if (len :: sofar ++ [b]).drop (len.toNat + 3) = crcBytes ((len :: sofar ++ [b]).take (len.toNat + 3)) then
        ({ s with lnk := s.lnk.discard s.lnk.faults } : State).offerFrame (frameOf (len :: sofar ++ [b]))
      else { s with lnk := s.lnk.discard s.lnk.faults.addCrc } := by
  have last : ¬ (len :: sofar ++ [b]).length < rd8 (len :: sofar ++ [b]) 0 + 5 := last.not_lt
  have crc : frameCrcOk (len :: sofar ++ [b]) = decide ((len :: sofar ++ [b]).drop (len.toNat + 3) =
      crcBytes ((len :: sofar ++ [b]).take (len.toNat + 3))) := rfl
  simp only [State.assemble, List.isEmpty_cons, Bool.false_eq_true, false_and, if_false, if_neg last, crc,
    decide_eq_true_eq]

end

end

/-! ## The commands -/

theorem exec_hlrxByte (dt : Micros) (b : Byte) (err : Bool) (s : State) :
    exec (.hlrxByte dt b err) s = .next ((s.beginAt (s.now + dt)).receive b err).finish := rfl

theorem exec_gapTimerExpiry {s : State} {due : Micros} (h : s.lnk.gapTimer = .running due) :
    exec .gapTimerExpiry s = .next (s.beginAt (max s.now due)).gapExpired.finish := by
  simp only [exec, execGapTimerExpiry, atExpiry_running h]

/-- A byte that offers no frame ends in the Link Unit. -/
theorem exec_hlrxByte_linked {s : State} {l : Lnk} (hr : l.restart = none) {dt : Micros} {b : Byte} {err : Bool}
    (h : (s.beginAt (s.now + dt)).receive b err = s.linked (s.now + dt) l) :
    exec (.hlrxByte dt b err) s = .next (s.linked (s.now + dt) l) := by
  rw [exec_hlrxByte, h, State.linked_finish (by simp [hr])]

/-- Settles O51, by the rows of the table. -/
theorem receiverFollowsItsTable : Obligations.ReceiverFollowsItsTable := by
  intro s hr at_ discard x
  refine ⟨fun due hdue => ?gap, fun dt b err hunting => ?hunting, fun dt b sofar hrx => ?error,
    fun dt b hrx => ?length, fun dt b len sofar hrx => ⟨fun more => ?more, fun last => ⟨fun wrong => ?wrong,
      fun right => ?right⟩⟩⟩
  case gap =>
    rw [exec_gapTimerExpiry hdue]
    exact congrArg _ (State.linked_finish (l := discard x.addGap) (by simp [discard, hr]) s _)
  case hunting =>
    refine exec_hlrxByte_linked (by split <;> exact hr) ?_
    split
    case isTrue sync =>
      obtain ⟨rfl, rfl⟩ := sync
      exact State.receive_sync hunting
    case isFalse other => exact State.receive_hunting (s := s.beginAt (s.now + dt)) hunting other
  case error =>
    exact exec_hlrxByte_linked (l := discard x.addByteError) hr
      (State.receive_error (s := s.beginAt (s.now + dt)) hrx b)
  case length =>
    refine exec_hlrxByte_linked (by split <;> exact hr) ?_
    rw [State.receive_assembles (s := s.beginAt (s.now + dt)) hrx]
    split
    case isTrue long => exact State.assemble_tooLong _ long
    case isFalse fits => exact State.assemble_length _ fits
  case more =>
    refine exec_hlrxByte_linked (l := { s.lnk with
      rx := some (len :: sofar ++ [b]), gapTimer := .running (s.now + dt + 20000) }) hr ?_
    rw [State.receive_assembles (s := s.beginAt (s.now + dt)) hrx]
    exact State.assemble_more _ more
  case wrong =>
    refine exec_hlrxByte_linked (l := discard x.addCrc) hr ?_
    rw [State.receive_assembles (s := s.beginAt (s.now + dt)) hrx, State.assemble_last _ last, if_neg wrong]
    rfl
  case right =>
    rw [exec_hlrxByte, State.receive_assembles (s := s.beginAt (s.now + dt)) hrx, State.assemble_last _ last,
      if_pos right]
    rfl

/-! ## The bytes of a frame (R187, R189) -/

/-- The bytes of a frame that its CRC covers. -/
def coveredBytes (f : Frame) : List Byte := byte f.body.length :: f.kind :: f.tag :: f.body

theorem frameBytes_eq (f : Frame) : frameBytes f = coveredBytes f ++ crcBytes (coveredBytes f) := rfl

theorem length_coveredBytes (f : Frame) : (coveredBytes f).length = f.body.length + 3 := rfl

/-- A frame's bytes carry its CRC. -/
theorem frameBytes_crc (f : Frame) : (frameBytes f).drop (f.body.length + 3) =
    crcBytes ((frameBytes f).take (f.body.length + 3)) := by
  rw [frameBytes_eq, ← length_coveredBytes, List.drop_left, List.take_left]

section
variable {f : Frame} (h : f.body.length ≤ 120)
include h

theorem toNat_lengthByte : (byte f.body.length).toNat = f.body.length := by
  rw [toNat_byte]
  exact Nat.mod_eq_of_lt (by omega)

/-- A frame reads back from its bytes. -/
theorem frameOf_frameBytes : frameOf (frameBytes f) = f := by
  have length : rd8 (frameBytes f) 0 = f.body.length := toNat_lengthByte h
  have body : (frameBytes f).drop 3 = f.body ++ crcBytes (coveredBytes f) := rfl
  rw [frameOf, length, body, List.take_left]
  rfl

/-- The first bytes of a frame, short of its last, are kept one after another. -/
theorem State.receive_first (s : State) (bytes : List Byte) (short : bytes.length < f.body.length + 4) :
    (byte f.body.length :: bytes).foldl (fun s b => s.receive b false) (s.assembling []) =
      s.assembling (byte f.body.length :: bytes) := by
  have length := toNat_lengthByte h
  induction bytes using List.reverseRecOn with
  | nil =>
    have fits : ¬ 120 < (byte f.body.length).toNat := by omega
    exact (State.receive_assembles (s := s.assembling []) rfl _).trans (State.assemble_length _ fits)
  | append_singleton bytes b ih =>
    simp only [List.length_append, List.length_singleton] at short
    rw [← List.cons_append, List.foldl_append, ih (by omega)]
    refine (State.receive_assembles (s := s.assembling _) rfl b).trans (State.assemble_more _ ?_)
    simp only [List.length_append, List.length_cons, List.length_nil]
    omega

end

/-- Settles O52: every byte but the last is kept, and with the last the CRC is right and the frame reads back. -/
theorem frameBytesGiveTheFrameBack : Obligations.FrameBytesGiveTheFrameBack := by
  intro f s fits hunting
  obtain ⟨hi, lo, hcrc⟩ : ∃ hi lo, crcBytes (coveredBytes f) = [hi, lo] := ⟨_, _, rfl⟩
  let first : List Byte := f.kind :: f.tag :: f.body ++ [hi]
  have bytes : frameBytes f = byte f.body.length :: first ++ [lo] := by
    rw [frameBytes_eq, hcrc]
    simp [coveredBytes, first]
  have length := toNat_lengthByte fits
  have kept := State.receive_first fits s first (by simp [first])
  have last : (byte f.body.length :: first ++ [lo]).length = (byte f.body.length).toNat + 5 := by
    simp [first, length]
  have right := frameBytes_crc f
  rw [← length, bytes] at right
  rw [List.foldl_cons, State.receive_sync hunting, bytes, List.foldl_append, kept]
  refine (State.receive_assembles (s := s.assembling _) rfl lo).trans ((State.assemble_last _ last).trans ?_)
  rw [if_pos right, ← bytes, frameOf_frameBytes fits]
  have discarded : (s.assembling (byte f.body.length :: first)).lnk.discard s.lnk.faults =
      { s.lnk with gapTimer := .stopped } := by
    simp [State.assembling, Lnk.discard, hunting]
  exact congrArg (fun l => State.offerFrame { s with lnk := l } f) discarded

end Sys2Proof.Machine

end


section
/-! PROOFS. FETCH_NOTICES and SET_NOTICE_MASK. -/

namespace Sys2Proof.Machine

open Sys2Proof.Safety

/-! ## Removing notices (R173) -/

/-- The queue once some of its notices are kept: a NOTICES_LOST joins it where one was due and any were removed. -/
def Lnk.queueAfter (l : Lnk) (time : Nat) (kept : List Notice) : List Notice :=
  if kept.length < l.notices.length ∧ 0 < l.lost then
    kept ++ [⟨.noticesLost, time, 0#8, padTo 6 (be16 l.lost)⟩] else kept

/-- The Link Unit with some of its notices kept: ATTN# follows the queue, and what was lost is reported. -/
def Lnk.thinned (l : Lnk) (time : Nat) (kept : List Notice) : Lnk :=
  { l with
    notices := l.queueAfter time kept
    attnLow := if kept.length < l.notices.length then !(l.queueAfter time kept).isEmpty else l.attnLow
    lost := if kept.length < l.notices.length then 0 else l.lost }

theorem Lnk.keep_eq_thinned (l : Lnk) (time : Nat) {kept : List Notice} (h : kept.Sublist l.notices) :
    l.keep time kept = l.thinned time kept := by
  by_cases fewer : kept.length < l.notices.length
  · by_cases lost : 0 < l.lost
    · simp [Lnk.keep, Lnk.afterRemoval, Lnk.thinned, Lnk.queueAfter, fewer, lost]
    · have none : l.lost = 0 := Nat.eq_zero_of_not_pos lost
      simp [Lnk.keep, Lnk.afterRemoval, Lnk.thinned, Lnk.queueAfter, fewer, none]
  · have all : kept = l.notices := h.eq_of_length_le (Nat.not_lt.1 fewer)
    simp [Lnk.keep, Lnk.thinned, Lnk.queueAfter, all]

/-- A request whose owner thins the queue, under the mask given, and answers it. -/
theorem State.finish_thinned {s : State} (hr : s.lnk.restart = none) (time : Micros) (kind tag : Byte)
    (mask : BitVec 16) (stamp : Nat) (kept : List Notice) (body : List Byte) :
    (({ s.inService time kind tag with
        lnk := ({ s.lnk with service := some ⟨kind, tag, none⟩, mask := mask } : Lnk).thinned stamp kept } :
      State).answer body).finish =
    s.linked time (({ s.lnk with
      service := some ⟨kind, tag, some (replyFrame kind tag body)⟩, mask := mask } : Lnk).thinned stamp kept) :=
  State.linked_finish (l := ({ s.lnk with
    service := some ⟨kind, tag, some (replyFrame kind tag body)⟩, mask := mask } : Lnk).thinned stamp kept)
    (by simp [Lnk.thinned, hr]) s time

/-! ## The requests (R174, R175) -/

theorem rd16_field16_zero (x : BitVec 16) : rd16 (field16 x) 0 = x.toNat :=
  rd16_field16 0#8 x

theorem State.own_fetchNotices (s : State) : s.own 0x04 [] =
    ({ s with lnk := s.lnk.thinned s.seconds (s.lnk.notices.drop 8) } : State).answer
      ([0#8, byte (s.lnk.notices.take 8).length,
        byte (s.lnk.queueAfter s.seconds (s.lnk.notices.drop 8)).length] ++
        ((s.lnk.notices.take 8).map noticeBytes).flatten) := by
  have own : s.own 0x04 [] = s.fetch := rfl
  rw [own, State.fetch, Lnk.keep_eq_thinned s.lnk s.seconds (List.drop_sublist ..)]
  rfl

theorem State.own_setNoticeMask (s : State) (mask : BitVec 16) : s.own 0x05 (field16 mask) = s.setMask mask := by
  have own : s.own 0x05 (field16 mask) = s.setMask (BitVec.ofNat 16 (rd16 (field16 mask) 0)) := rfl
  rw [own, rd16_field16_zero, BitVec.ofNat_toNat, BitVec.setWidth_eq]

theorem State.setMask_refused {mask : BitVec 16} (h : 4096 ≤ mask.toNat) (s : State) :
    s.setMask mask = s.answer [5#8] := by
  have refused : ¬ maskTaken mask = true := by simpa [maskTaken] using h
  rw [State.setMask, if_neg refused]
  rfl

theorem State.setMask_taken {mask : BitVec 16} (h : mask.toNat < 4096) (s : State) : s.setMask mask =
    ({ s with
      lnk := ({ s.lnk with mask := mask } : Lnk).thinned s.seconds
        (s.lnk.notices.filter fun n => !mask.getLsbD (noticeKindCode n.kind)) } : State).answer [0#8] := by
  have taken : maskTaken mask = true := by simpa [maskTaken] using h
  have kept := Lnk.keep_eq_thinned { s.lnk with mask := mask } s.seconds
    (List.filter_sublist (p := fun n : Notice => !mask.getLsbD (noticeKindCode n.kind)))
  rw [State.setMask, if_pos taken]
  exact congrArg (fun l => State.answer { s with lnk := l } [0#8]) kept

/-- Settles O54: each request removes notices of the queue, oldest first or by their kind, and is answered at once. -/
theorem noticeRequestsComplete : Obligations.NoticeRequestsComplete := by
  intro dt tag s hfree time queue leaves
  have ⟨_, hr⟩ := hfree
  refine ⟨?fetch, fun mask => ⟨fun high => ?refused, fun low => ?taken⟩⟩
  case fetch =>
    rw [exec_own (c := .fetchNotices dt tag) rfl hfree rfl rfl]
    exact congrArg _ ((congrArg State.finish (State.own_fetchNotices _)).trans
      (State.finish_thinned hr _ _ tag s.lnk.mask time _ _))
  case refused =>
    exact exec_answered (c := .setNoticeMask dt tag mask) hfree rfl rfl rfl
      ((State.own_setNoticeMask _ mask).trans (State.setMask_refused high _))
  case taken =>
    rw [exec_own (c := .setNoticeMask dt tag mask) rfl hfree rfl rfl]
    have own := (State.own_setNoticeMask (s.inService (s.now + dt) 0x05#8 tag) mask).trans
      (State.setMask_taken low _)
    exact congrArg _ ((congrArg State.finish own).trans (State.finish_thinned hr _ _ tag mask time _ _))

end Sys2Proof.Machine

end


section
/-! PROOFS. REPLY_SENT and SOFT_RESTART. -/

namespace Sys2Proof.Machine

open Sys2Proof.Safety

/-! ## REPLY_SENT (R167, R171) -/

theorem exec_replySent (dt : Micros) (s : State) :
    exec (.replySent dt) s = .next (s.beginAt (s.now + dt)).replySent.finish := rfl

section
variable {s : State} {v : Service} {frame : List Byte} (hv : s.lnk.service = some v) (formed : v.reply = some frame)
include hv formed

/-- With nothing waiting the link is free. -/
theorem State.replySent_frees (hr : s.lnk.restart = none) (hw : s.lnk.waiting = none) :
    s.replySent = { s with lnk := { s.lnk with service := none } } := by
  obtain ⟨kind, tag, reply⟩ := v
  cases formed
  simp only [State.replySent, hv, hr, hw]

/-- The waiting frame enters service. -/
theorem State.replySent_serves (hr : s.lnk.restart = none) {f : Frame} (hw : s.lnk.waiting = some f) :
    s.replySent = ({ s with lnk := { s.lnk with service := none, waiting := none } } : State).serve f := by
  obtain ⟨kind, tag, reply⟩ := v
  cases formed
  simp only [State.replySent, hv, hr, hw]

/-- With a restart pending the moment is kept. -/
theorem State.replySent_restart {r : RestartWait} (hr : s.lnk.restart = some r) : s.replySent =
    { s with lnk := { s.lnk with service := none, restart := some { r with replySent := true } } } := by
  obtain ⟨kind, tag, reply⟩ := v
  cases formed
  simp only [State.replySent, hv, hr]

end

/-- A restart whose reply is sent and whose recorder is ready takes place (R171). -/
theorem State.linked_finish_restart {l : Lnk} (h : l.restart = some ⟨true, true⟩) (s : State) (time : Micros) :
    (s.linked time l).finish = State.afterReset s.ratePinHigh l.faults s.schedule s.pending := by
  rw [State.finish, settle_quiet (s := s.linked time l) rfl, State.restartIfDue]
  simp only [State.linked, h]
  rfl

/-! ## The RESTART SYNC (R156) -/

theorem recause_marked {r : Record} (h : r.body.isSync = true) (c : SyncCause) :
    (recause c true r).body.marked = true := by
  obtain ⟨time, unsynced, body⟩ := r
  cases body <;> cases h
  simp [recause, RecordBody.marked]

/-- A RESTART SYNC touches the queue and lost_count alone, and outside FAILED a marked record waits. -/
theorem Drc.placeSync_restart (s : State) (d : Drc) : ∃ queue lost,
    d.placeSync s .restart true = { d with queue := queue, lostCount := lost } ∧
      (d.state ≠ .failed → ∃ r ∈ queue, r.body.marked = true) := by
  unfold Drc.placeSync
  dsimp only
  split
  case h_1 failed => exact ⟨d.queue, _, rfl, fun h => absurd failed h⟩
  case h_2 r found _ =>
    have isSync := List.find?_some (p := fun r : Record => r.body.isSync) found
    exact ⟨_, d.lostCount, rfl, fun _ => ⟨recause .restart true r, by simp, recause_marked isSync _⟩⟩
  case h_3 =>
    split
    · exact ⟨_, d.lostCount, rfl, fun _ => ⟨s.stamp (.sync .restart true), by simp, rfl⟩⟩
    · exact ⟨_, _, rfl, fun _ => ⟨s.stamp (.sync .restart true), by simp, rfl⟩⟩

/-- What the recorder's event leaves when the Link Unit tells it of a restart (R156, R171). -/
structure RestartTold (d : Drc) (w : DrcWork) : Prop where
  acc : w.drc.acc = d.acc
  reply : w.reply = none
  ready : d.state ≠ .running → w.ready = true
  queue : d.state = .running → ∃ r ∈ w.drc.queue, r.body.marked = true

theorem restartTold {d : Drc} (hread : d.read = none) (s : State) :
    RestartTold d (drcEnd s (drcRestart s { drc := d })) := by
  obtain ⟨queue, lost, placed, marked⟩ := d.placeSync_restart s
  have told : drcRestart s { drc := d } =
      { drc := { d with queue := queue, lostCount := lost }, ready := d.state != .running } := by
    simp [drcRestart, placed]
  rw [told]
  have kept := drcEnd_kept s { drc := { d with queue := queue, lostCount := lost }, ready := d.state != .running }
  refine ⟨kept.acc, (drcEnd_noRead hread s).2, fun idle => ?ready, fun running => ?queue⟩
  case ready =>
    rw [drcEnd_eq_addLost (by simp [hread]) (.inl idle)]
    obtain ⟨queue', lost', h⟩ := addLost_eq s
      { drc := { d with queue := queue, lostCount := lost }, ready := d.state != .running }
    rw [h]
    simpa using idle
  case queue =>
    obtain ⟨r, hr, mark⟩ := marked (by simp [running])
    obtain ⟨rest, hqueue⟩ := kept.queue
    exact ⟨r, hqueue ▸ List.mem_append_left rest hr, mark⟩

/-! ## SOFT_RESTART (R171) -/

section
variable {s : State}

theorem State.requestRestart_active (h : s.bothDisengaged = false) : s.requestRestart = s.answer [2#8, 3#8] := by
  simp only [State.requestRestart, h]
  rfl

variable (h : s.bothDisengaged = true)
include h

theorem State.requestRestart_applying (applying : s.pfu.conf = .applying) : s.requestRestart = s.answer [8#8] := by
  simp only [State.requestRestart, h, applying]
  rfl

theorem State.requestRestart_accepted (idle : s.pfu.conf ≠ .applying) : s.requestRestart =
    { s with
      agenda := s.agenda ++ [(.drc, .restartAsked)]
      lnk := ({ s.lnk with restart := some ⟨false, false⟩ } : Lnk).answer [0#8] } := by
  simp only [State.requestRestart, h, idle, Bool.not_true, Bool.false_eq_true, if_false]
  rfl

end

/-- What a recorder that has no reply to give hands over: that it is ready, if it is. -/
def DrcWork.readiness (w : DrcWork) : List Event := if w.ready then [.restartReady] else []

theorem drcOut_readiness {w : DrcWork} (h : w.reply = none) : (drcOut w).events = w.readiness.map (.lnk, ·) := by
  cases hr : w.ready <;> simp [drcOut, DrcWork.readiness, h, hr]

theorem DrcWork.readiness_heard (w : DrcWork) {l : Lnk} {sent : Bool} (h : l.restart = some ⟨sent, false⟩) :
    w.readiness.foldl Lnk.hears l = { l with restart := some ⟨sent, w.ready⟩ } := by
  cases hr : w.ready
  · simp [DrcWork.readiness, hr, ← h]
  · simp [DrcWork.readiness, hr, Lnk.hears, h]

/-- The one publication waiting is taken by the block it is for, whatever the schedule says. -/
theorem settle_one {u : State} {b : Block} {e : Event} (h : u.agenda = [(b, e)]) (n : Nat) :
    settle (n + 1) u = settle n (({ u with agenda := [], schedule := u.schedule.drop 1 } : State).deliver b e) := by
  have only : nextDelivery u.schedule (b, e) [] = (b, e, []) := nextDelivery_oneBlock u.schedule b e []
  rw [settle_step h, only]

/-- Where a command ends that leaves the recorder alone to be told of a restart: the recorder has acted, and the Link
Unit has heard whether it is ready. -/
theorem State.finish_restartAsked {u : State} (ha : u.agenda = [(.drc, .restartAsked)])
    (hr : u.lnk.restart = some ⟨false, false⟩) (hread : u.drc.read = none) :
    ∃ w l, RestartTold u.drc w ∧ l.service = u.lnk.service ∧ l.restart = some ⟨false, w.ready⟩ ∧
      u.finish = { u with
        agenda := [], schedule := (u.schedule.drop 1).drop w.readiness.length
        drc := w.drc, port := u.port.ask .drc w.ask, lnk := l } := by
  let v : State := { u with agenda := [], schedule := u.schedule.drop 1 }
  let w := drcEnd v (drcRestart v { drc := u.drc })
  have told : RestartTold u.drc w := restartTold hread v
  obtain ⟨-, -, service, -, restart, -⟩ := Lnk.posts_frame w.news ({ v with drc := w.drc } : State).seconds u.lnk
  have short : w.readiness.length ≤ 4095 := by
    unfold DrcWork.readiness
    split <;> decide
  have heard := w.readiness_heard (l := (v.drcCommit w).lnk) (restart.trans hr)
  have settled := (settle_one ha 4095).trans
    (settle_lnk w.readiness short (s := v.drcCommit w) (drcOut_readiness told.reply))
  rw [heard] at settled
  refine ⟨w, { (v.drcCommit w).lnk with restart := some ⟨false, w.ready⟩ }, told, service, rfl, ?_⟩
  exact (congrArg State.restartIfDue settled).trans (State.restartIfDue_awaited (by simp))

/-- Settles O55: a reply sent by what waits for it, and SOFT_RESTART by its tests in order. -/
theorem replySentAndSoftRestartComplete : Obligations.ReplySentAndSoftRestartComplete := by
  refine ⟨fun dt s v frame hv formed => ?sent, fun dt tag s hfree => ⟨fun active => ?active,
    fun free applying => ?applying, fun free idle hread => ?accepted⟩⟩
  case sent =>
    have hv : (s.beginAt (s.now + dt)).lnk.service = some v := hv
    refine ⟨fun hr hw => ?_, fun f hr hw => ?_, fun sent hr => ?_, fun sent hr => ?_⟩
    · rw [exec_replySent, State.replySent_frees hv formed hr hw]
      exact congrArg _ (State.linked_finish (l := { s.lnk with service := none }) (by simp [hr]) s _)
    · rw [exec_replySent, State.replySent_serves hv formed hr hw]
      rfl
    · rw [exec_replySent, State.replySent_restart hv formed hr]
      exact congrArg _ (State.linked_finish
        (l := { s.lnk with service := none, restart := some ⟨true, false⟩ }) (by simp) s _)
    · rw [exec_replySent, State.replySent_restart hv formed hr]
      exact congrArg _ (State.linked_finish_restart
        (l := { s.lnk with service := none, restart := some ⟨true, true⟩ }) rfl s _)
  case active =>
    exact exec_answered (c := .softRestart dt tag) hfree rfl rfl rfl
      (State.requestRestart_active (s := s.inService (s.now + dt) 0x3F#8 tag) active)
  case applying =>
    exact exec_answered (c := .softRestart dt tag) hfree rfl rfl rfl
      (State.requestRestart_applying (s := s.inService (s.now + dt) 0x3F#8 tag) free applying)
  case accepted =>
    have own := State.requestRestart_accepted (s := s.inService (s.now + dt) 0x3F#8 tag) free idle
    obtain ⟨w, l, told, service, restart, ends⟩ := State.finish_restartAsked
      (u := { s.inService (s.now + dt) 0x3F#8 tag with
        agenda := [(.drc, .restartAsked)]
        lnk := ({ s.lnk with
          service := some ⟨0x3F#8, tag, none⟩, restart := some ⟨false, false⟩ } : Lnk).answer [0#8] })
      rfl rfl hread
    refine ⟨_, (exec_own (c := .softRestart dt tag) rfl hfree rfl rfl).trans
      (congrArg _ ((congrArg State.finish own).trans ends)), service, rfl, rfl, rfl, rfl, rfl, rfl, rfl, rfl,
      told.acc, ⟨_, restart, fun idle => ?_⟩, told.queue⟩
    simpa using told.ready idle

end Sys2Proof.Machine

end


section
/-! PROOFS. The hard resets, and the requests as frames. -/

namespace Sys2Proof.Machine

/-- Settles O3, by the lemma of each command. -/
theorem everyRequestFitsItsKind : Obligations.EveryRequestFitsItsKind := by
  intro i
  cases i with
  | powerOnReset | pinReset | scan | pulse | holdTimerExpiry | stillTimerExpiry | recoveryTimerExpiry
  | gaugeCycle | recloseTimerExpiry | lowPressureTimerExpiry | noRiseTimerExpiry | permissiveTimerExpiry
  | confirmTimerExpiry | retryOffExpiry | restoreTimerExpiry | idleTimerExpiry | positionTimerExpiry
  | overspeedTimerExpiry | slipTimerExpiry | stallTimerExpiry | persistTimerExpiry | dryTimerExpiry
  | dryRunClearExpiry | overrideTimerExpiry | transferTimerExpiry | reclaimTimerExpiry | syncTimerExpiry
  | halfPageWriteEnd | slotReadEnd | pageReadEnd | pageWriteEnd | hlrxByte | gapTimerExpiry | replySent =>
    exact Laws.Framed.of_none rfl
  | unknownKind => exact Laws.Framed.unknownKind _ _ _ _
  | getStatus => exact Laws.Framed.getStatus _ _
  | getInputs => exact Laws.Framed.getInputs _ _
  | getTank => exact Laws.Framed.getTank _ _ _
  | fetchNotices => exact Laws.Framed.fetchNotices _ _
  | setNoticeMask => exact Laws.Framed.setNoticeMask _ _ _
  | engageDrive => exact Laws.Framed.engageDrive _ _ _
  | releaseDrive => exact Laws.Framed.releaseDrive _ _ _
  | reclaimAuthority => exact Laws.Framed.reclaimAuthority _ _
  | silenceAlarm => exact Laws.Framed.silenceAlarm _ _
  | clearFillFault => exact Laws.Framed.clearFillFault _ _
  | confirmLockout => exact Laws.Framed.confirmLockout _ _ _
  | overrideLockout => exact Laws.Framed.overrideLockout _ _ _ _
  | cancelOverride => exact Laws.Framed.cancelOverride _ _ _
  | getLockouts => exact Laws.Framed.getLockouts _ _
  | readRecords => exact Laws.Framed.readRecords _ _ _ _
  | getAccumulators => exact Laws.Framed.getAccumulators _ _
  | markRecord => exact Laws.Framed.markRecord _ _ _
  | setTime => exact Laws.Framed.setTime _ _ _
  | profileRead => exact Laws.Framed.profileRead _ _ _ _ _ _
  | profileWrite => exact Laws.Framed.profileWrite _ _ _ _ _
  | profileApply => exact Laws.Framed.profileApply _ _
  | profileDiscard => exact Laws.Framed.profileDiscard _ _
  | softRestart => exact Laws.Framed.softRestart _ _

/-- Settles O4: both resets are the same, and set every block but the strap, the schedule and the queue of commands. -/
theorem hardResetsLeaveTheResetState : Obligations.HardResetsLeaveTheResetState :=
  fun _ _ => ⟨rfl, rfl⟩

end Sys2Proof.Machine

end


section
/-! PROOFS. The end of a Profile Unit event and of its command. -/

namespace Sys2Proof.Machine

open Sys2Proof.Safety

/-! ## A restart does not arise in the chain of publications (R171) -/

/-- No delivery brings a restart about: the Link Unit completes one that is pending, and begins one by a request
alone. -/
theorem State.deliver_restart_none {s : State} (h : s.lnk.restart = none) (b : Block) (e : Event) :
    (s.deliver b e).lnk.restart = none := by
  have passed {t : State} (p : PassedOn s t) : t.lnk.restart = none := by simpa [h] using p.1.restart
  cases b with
  | isu => cases e <;> exact h
  | tgu => cases e <;> exact h
  | lbu => exact passed (s.lbuEvent_passedOn e)
  | deu => exact passed (s.deuEvent_passedOn e)
  | ppu => exact passed (s.ppuEvent_passedOn e)
  | lku => exact passed (s.lkuEvent_passedOn e)
  | tau => exact passed (s.tauEvent_passedOn e)
  | drc => exact passed (s.drcEvent_passedOn e)
  | lnk => exact passed (s.lnkEvent_passedOn e)
  | pfu => exact passed (s.pfuEvent_passedOn e)

theorem settle_restart_none (n : Nat) {s : State} (h : s.lnk.restart = none) : (settle n s).lnk.restart = none :=
  settle_keeps_all (·.lnk.restart = none) (fun _ ht => ht)
    (fun t b e left ht => State.deliver_restart_none
      (s := { t with agenda := left, schedule := t.schedule.drop 1 }) ht b e) n s h

/-- A command that has nothing for the Profile Unit leaves it as its own effect did, also where it publishes a change of
configuration. -/
theorem State.finish_pfu_of_restart_none {s : State} (h : NotToPfu s.agenda) (hr : s.lnk.restart = none) :
    s.finish.pfu = s.pfu := by
  rw [State.finish, State.restartIfDue_none (settle_restart_none _ hr), settle_pfu _ h]

/-! ## What an event of the Profile Unit leaves unchanged -/

/-- An operation the Profile Unit asks for begins, or waits for the port (R179). -/
theorem Port.ask_pfu (p : Port) (op : PortOp) :
    (p.ask .pfu (some op)).busy = some (.pfu, op) ∨ (p.ask .pfu (some op)).pfuWaits = some op := by
  have asked : p.ask .pfu (some op) = Port.serve { p with pfuWaits := some op } := rfl
  rw [asked]
  obtain h | ⟨op', -, waits, h⟩ | ⟨op', -, -, h⟩ := Port.serve_cases { p with pfuWaits := some op } <;> rw [h]
  · exact .inr rfl
  · exact .inl (congrArg (Option.map (Prod.mk Client.pfu)) waits.symm)
  · exact .inr rfl

/-- Only the Profile Unit acts, and the port with it. -/
theorem othersKept_pfu (s : State) (now : Micros) (pfu : Pfu) (lnk : Lnk) (port : Port)
    (agenda : List (Block × Event)) :
    OthersKept .pfu s { s with now := now, pfu := pfu, lnk := lnk, agenda := agenda, port := port } :=
  ⟨fun _ => rfl, fun _ => rfl, fun _ => rfl, fun _ => rfl, fun _ => rfl, fun _ => rfl, fun _ => rfl,
    fun _ => rfl, fun h => absurd rfl h, fun _ h => absurd rfl h, rfl, rfl, rfl⟩

/-- An event by what its body comes to. -/
theorem State.pfuTakes_eq {u : State} {body : PfuWork → PfuWork} {w : PfuWork} (h : body { pfu := u.pfu } = w) :
    u.pfuTakes body = u.pfuCommit w := congrArg u.pfuCommit h

theorem State.pfuCommit_acts (s : State) (time : Micros) (w : PfuWork) :
    Acts .pfu time s ((s.beginAt time).pfuCommit w) :=
  ⟨rfl, othersKept_pfu s _ _ _ _ _, noticesOnly_posts _ _ _⟩

/-! ## Where a command of the Profile Unit ends

It ends at once where the event asks for an operation or answers its request and publishes nothing; and what it does
publish reaches the other blocks alone. -/

theorem notToPfu_confBlocks (e : Event) : NotToPfu (toBlocks confBlocks e) := .toBlocks (by decide) e

theorem pfuOut_notToPfu {w : PfuWork} (h : NotToPfu w.events) : NotToPfu (pfuOut w).events := by
  rw [pfuOut, notToPfu_append]
  refine ⟨?_, h⟩
  cases w.reply <;> simp

theorem pfuOut_noReply {w : PfuWork} (h : w.reply = none) : (pfuOut w).events = w.events := by
  simp [pfuOut, h]

section
variable {u : State} (hr : u.lnk.restart = none) (ha : u.agenda = [])
include hr

/-- What the event made of the unit stands at the end of the command. -/
theorem State.pfuCommit_finish_pfu {w : PfuWork} (hagenda : NotToPfu u.agenda) (h : NotToPfu w.events) :
    (u.pfuCommit w).finish.pfu = w.pfu := by
  refine State.finish_pfu_of_restart_none (s := u.pfuCommit w) ?_ (by simp [hr])
  rw [State.pfuCommit_agenda]
  exact notToPfu_append.2 ⟨hagenda, pfuOut_notToPfu h⟩

include ha

/-- An event that asks for an operation alone (R181 to R183). -/
theorem State.pfuCommit_asks (p : Pfu) (op : PortOp) : (u.pfuCommit { pfu := p, ask := some op }).finish =
    { u with agenda := [], pfu := p, port := u.port.ask .pfu (some op) } := by
  have agenda : (u.pfuCommit { pfu := p, ask := some op }).agenda = [] := by rw [State.pfuCommit_agenda, ha]; rfl
  rw [State.finish_quiet agenda (by simp [hr])]
  exact congrArg (fun xs => ({ u with agenda := xs, pfu := p, port := u.port.ask .pfu (some op) } : State)) agenda

/-- An event that answers its request alone (R182, R183). -/
theorem State.pfuCommit_answers (p : Pfu) (body : List Byte) :
    (u.pfuCommit { pfu := p, reply := some body }).finish =
      { u with agenda := [], schedule := u.schedule.drop 1, pfu := p, lnk := u.lnk.answer body } := by
  have agenda : (u.pfuCommit { pfu := p, reply := some body }).agenda = [Event.reply body].map (.lnk, ·) := by
    rw [State.pfuCommit_agenda, ha]; rfl
  rw [State.finish, settle_lnk [.reply body] (n := Config.settleBound) (Nat.le_add_left 1 4095) agenda]
  exact State.restartIfDue_none ((Lnk.answer_restart _ _).trans hr)

end

end Sys2Proof.Machine

end


section
/-! PROOFS. The supply monitor. -/

namespace Sys2Proof.Machine

/-! ## The counts (R185) -/

theorem countRun_decide (p : Prop) [Decidable p] (n : Nat) :
    countRun (decide p) n = if p then min 2 (n + 1) else 0 := by
  simp [countRun, saturate]

/-- A count stands at 2 from the second publication in a row. -/
theorem countRun_eq_two {p : Prop} [Decidable p] {n : Nat} : countRun (decide p) n = 2 ↔ p ∧ 1 ≤ n := by
  rw [countRun_decide]
  split <;> simp_all

/-! ## The supply state at a publication (R185) -/

section
variable {s : State} {w : PfuWork}

/-- In DROOP the count of high publications decides, and otherwise that of low ones. -/
theorem pfuInputs_eq (s : State) (w : PfuWork) : pfuInputs s w =
    let c := w.counted s.isu.pub.supplyMv
    if w.pfu.supply = .droop then
      if c.pfu.highCount = 2 then c.supplyTo s .recovering (.running (s.now + 1500000)) else c
    else if c.pfu.lowCount = 2 then c.supplyTo s .droop .stopped else c := by
  obtain ⟨⟨conf, inUse, active, edit, task, supply, low, high, recovery⟩, ask, news, events, reply⟩ := w
  cases supply <;> rfl

theorem pfuInputs_recovers (h : w.pfu.supply = .droop) (high : 10500 ≤ s.isu.pub.supplyMv)
    (count : 1 ≤ w.pfu.highCount) : pfuInputs s w =
      (w.counted s.isu.pub.supplyMv).supplyTo s .recovering (.running (s.now + 1500000)) := by
  have two : (w.counted s.isu.pub.supplyMv).pfu.highCount = 2 := countRun_eq_two.2 ⟨high, count⟩
  simp only [pfuInputs_eq, h, two, if_true]

theorem pfuInputs_droops (h : w.pfu.supply ≠ .droop) (low : s.isu.pub.supplyMv < 8500)
    (count : 1 ≤ w.pfu.lowCount) : pfuInputs s w =
      (w.counted s.isu.pub.supplyMv).supplyTo s .droop .stopped := by
  have two : (w.counted s.isu.pub.supplyMv).pfu.lowCount = 2 := countRun_eq_two.2 ⟨low, count⟩
  simp only [pfuInputs_eq, h, two, if_true, if_false]

theorem pfuInputs_counts (up : ¬ (w.pfu.supply = .droop ∧ 10500 ≤ s.isu.pub.supplyMv ∧ 1 ≤ w.pfu.highCount))
    (down : ¬ (w.pfu.supply ≠ .droop ∧ s.isu.pub.supplyMv < 8500 ∧ 1 ≤ w.pfu.lowCount)) :
    pfuInputs s w = w.counted s.isu.pub.supplyMv := by
  rw [← countRun_eq_two] at up down
  rw [pfuInputs_eq]
  by_cases h : w.pfu.supply = .droop
  · exact (if_pos h).trans (if_neg fun two => up ⟨h, two⟩)
  · exact (if_neg h).trans (if_neg fun two => down ⟨h, two⟩)

end

/-! ## What a change of the supply state hands over (R185) -/

section
variable {s : State} {w : PfuWork}

theorem supplyTo_published (after : SupplyState) (timer : Timer) {b : Block} (hb : b ∈ [Block.deu, .lku, .drc]) :
    (b, Event.supply w.pfu.supply after) ∈ (w.supplyTo s after timer).events := by
  have published : (b, Event.supply w.pfu.supply after) ∈
      toBlocks [.deu, .lku, .drc] (.supply w.pfu.supply after) := List.mem_map_of_mem hb
  unfold PfuWork.supplyTo
  dsimp only
  refine List.mem_append_right _ ?_
  split
  · exact List.mem_append_left _ published
  · exact List.mem_append_right _ published

/-- A droop out of NORMAL is recorded, before or after it is published. -/
theorem supplyTo_droop_recorded (h : w.pfu.supply = .normal) (timer : Timer) :
    (Block.drc, Event.records [.supply .normal .droop s.isu.pub.supplyMv]) ∈ (w.supplyTo s .droop timer).events := by
  simp only [PfuWork.supplyTo, h]
  split <;> simp

/-- A return to NORMAL is recorded and then published. -/
theorem supplyTo_normal_events (timer : Timer) : (w.supplyTo s .normal timer).events = w.events ++
    ((.drc, .records [.supply w.pfu.supply .normal s.isu.pub.supplyMv]) ::
      toBlocks [.deu, .lku, .drc] (.supply w.pfu.supply .normal)) := by
  simp [PfuWork.supplyTo, State.droopFirst]

end

/-- What a change of the supply state leaves: the counts taken, the state and its timer, and the hand-overs waiting. -/
theorem State.pfuEvent_inputs_supplyTo {s : State} {after : SupplyState} {timer : Timer} {w : PfuWork}
    (hreply : w.reply = none) (h : pfuInputs s { pfu := s.pfu } = w.supplyTo s after timer) :
    (s.pfuEvent .inputs).pfu = { w.pfu with supply := after, recovery := timer } ∧
      ∀ x ∈ (w.supplyTo s after timer).events, x ∈ (s.pfuEvent .inputs).agenda := by
  have taken : s.pfuEvent .inputs = s.pfuCommit (w.supplyTo s after timer) := congrArg s.pfuCommit h
  rw [taken]
  refine ⟨rfl, fun x hx => ?_⟩
  rw [State.pfuCommit_agenda, pfuOut_noReply (w := w.supplyTo s after timer) hreply]
  exact List.mem_append_right _ hx

/-! ## The recovery timer (R185) -/

theorem exec_recoveryTimerExpiry {s : State} {due : Micros} (h : s.pfu.recovery = .running due) :
    exec .recoveryTimerExpiry s = .next ((s.beginAt (max s.now due)).pfuTakes
      (pfuRecoveryExpired (s.beginAt (max s.now due)))).finish := by
  simp only [exec, execRecoveryTimerExpiry, atExpiry_running h]

theorem pfuRecoveryExpired_recovering {s : State} {w : PfuWork} (h : w.pfu.supply = .recovering) :
    pfuRecoveryExpired s w = w.supplyTo s .normal .stopped := if_pos h

/-- Settles O56: a publication by whether it completes a run of two, and the expiry by what it hands over. -/
theorem supplyMonitorCountsTwoPublications : Obligations.SupplyMonitorCountsTwoPublications := by
  refine ⟨fun s => ?publication, fun s due hdue hsupply => ?expiry⟩
  case publication =>
    intro p mv up down t
    let w : PfuWork := ({ pfu := p } : PfuWork).counted mv
    have counts : w.pfu = { p with
        lowCount := if mv < 8500 then min 2 (p.lowCount + 1) else 0
        highCount := if 10500 ≤ mv then min 2 (p.highCount + 1) else 0 } := by
      simp only [w, PfuWork.counted, countRun_decide]
    by_cases hup : p.supply = .droop ∧ 10500 ≤ mv ∧ 1 ≤ p.highCount
    · obtain ⟨hdroop, high, count⟩ := hup
      have isUp : up = true := decide_eq_true ⟨hdroop, high, count⟩
      obtain ⟨pfu, handed⟩ := State.pfuEvent_inputs_supplyTo (w := w) rfl (pfuInputs_recovers hdroop high count)
      have supply : t.pfu.supply = .recovering := congrArg Pfu.supply pfu
      rw [supply]
      refine ⟨?_, ?_, fun _ b hb => handed _ (supplyTo_published _ _ hb), nofun⟩
      · rw [isUp]; exact pfu.trans (by rw [counts]; rfl)
      · rw [isUp]; nofun
    have notUp : up = false := decide_eq_false hup
    by_cases hdown : p.supply ≠ .droop ∧ mv < 8500 ∧ 1 ≤ p.lowCount
    · obtain ⟨hne, low, count⟩ := hdown
      have isDown : down = true := decide_eq_true ⟨hne, low, count⟩
      obtain ⟨pfu, handed⟩ := State.pfuEvent_inputs_supplyTo (w := w) rfl (pfuInputs_droops hne low count)
      have supply : t.pfu.supply = .droop := congrArg Pfu.supply pfu
      rw [supply]
      refine ⟨?_, ?_, fun _ b hb => handed _ (supplyTo_published _ _ hb),
        fun normal _ => handed _ (supplyTo_droop_recorded normal _)⟩
      · rw [notUp, isDown]; exact pfu.trans (by rw [counts]; rfl)
      · rw [isDown]; nofun
    · have notDown : down = false := decide_eq_false hdown
      have taken : t = s.pfuCommit w := congrArg s.pfuCommit (pfuInputs_counts hup hdown)
      have supply : t.pfu.supply = p.supply := congrArg (·.pfu.supply) taken
      rw [supply, notUp, notDown]
      refine ⟨?_, fun _ _ => ⟨?_, ?_⟩, fun changed => absurd rfl changed, fun normal droop => ?_⟩
      · exact (congrArg State.pfu taken).trans counts
      · rw [taken]; exact List.append_nil _
      · rw [taken]; rfl
      · cases normal.symm.trans droop
  case expiry =>
    let time := max s.now due
    let u := (s.beginAt time).pfuCommit (({ pfu := s.pfu } : PfuWork).supplyTo (s.beginAt time) .normal .stopped)
    have taken : (s.beginAt time).pfuTakes (pfuRecoveryExpired (s.beginAt time)) = u :=
      State.pfuTakes_eq (pfuRecoveryExpired_recovering hsupply)
    have finish : exec .recoveryTimerExpiry s = .next u.finish := by rw [exec_recoveryTimerExpiry hdue, taken]
    have agenda : u.agenda = (.drc, .records [.supply .recovering .normal s.isu.pub.supplyMv]) ::
        toBlocks [.deu, .lku, .drc] (.supply .recovering .normal) := by
      rw [State.pfuCommit_agenda, pfuOut_noReply rfl, supplyTo_normal_events, hsupply]; rfl
    refine ⟨u, finish, State.pfuCommit_acts s time _, rfl, fun hr => ?_, agenda⟩
    have restart : u.lnk.restart = none := by simp [u, hr]
    have conf : NoConf u.agenda := by simp [agenda, toBlocks, Event.isConf]
    have others : NotToPfu u.agenda := by simp [agenda, toBlocks]
    have carried := Carried.finish conf restart
    exact ⟨State.finish_pfu conf others restart, carried.isu, carried.tgu⟩

end Sys2Proof.Machine

end


section
/-! PROOFS. The ends of the Profile Unit's port operations: PAGE_READ_END and PAGE_WRITE_END. -/

namespace Sys2Proof.Machine

open Sys2Proof.Safety

/-! ## The commands -/

theorem exec_pageReadEnd {s : State} {page : Nat} (h : s.port.busy = some (.pfu, .pageRead page)) (dt : Micros)
    (outcome : PageEnd) : exec (.pageReadEnd dt outcome) s =
      .next ((s.freed (s.now + dt)).pfuTakes (pfuReadEnd outcome)).finish := by
  have busy : (s.beginAt (s.now + dt)).port.busy = some (.pfu, .pageRead page) := by
    simp [State.beginAt, Port.serve_busy h, h]
  simp only [exec, execPageReadEnd, after_eq, State.pageReadEnded, busy, State.freed]

theorem exec_pageWriteEnd {s : State} {page : Nat} {bytes : List Byte}
    (h : s.port.busy = some (.pfu, .pageWrite page bytes)) (dt : Micros) (outcome : WriteEnd) :
    exec (.pageWriteEnd dt outcome) s =
      .next ((s.freed (s.now + dt)).pfuTakes (pfuWriteEnd outcome)).finish := by
  have busy : (s.beginAt (s.now + dt)).port.busy = some (.pfu, .pageWrite page bytes) := by
    simp [State.beginAt, Port.serve_busy h, h]
  simp only [exec, execPageWriteEnd, after_eq, State.pageWriteEnded, busy, State.freed]

/-! ## Where they end, by what the event made of the unit -/

section
variable {s : State} (hr : s.lnk.restart = none) (time : Micros) {body : PfuWork → PfuWork}
include hr

/-- An event that asks for an operation alone. -/
theorem State.freed_asks {p : Pfu} {op : PortOp} (h : body { pfu := s.pfu } = { pfu := p, ask := some op }) :
    ∃ q : Port, ((s.freed time).pfuTakes body).finish = { s with now := time, agenda := [], pfu := p, port := q } ∧
      (q.busy = some (.pfu, op) ∨ q.pfuWaits = some op) := by
  rw [State.pfuTakes_eq (u := s.freed time) h, State.pfuCommit_asks (u := s.freed time) hr rfl p op]
  exact ⟨_, rfl, Port.ask_pfu _ op⟩

/-- An event that answers the request in service alone. -/
theorem State.freed_answers {x : Client × PortOp} (busy : s.port.busy = some x) {kind tag : Byte}
    (service : s.lnk.service = some ⟨kind, tag, none⟩) {p : Pfu} {reply : List Byte}
    (h : body { pfu := s.pfu } = { pfu := p, reply := some reply }) :
    ((s.freed time).pfuTakes body).finish = { s with
      now := time, agenda := [], schedule := s.schedule.drop 1, port := s.port.free, pfu := p
      lnk := { s.lnk with service := some ⟨kind, tag, some (replyFrame kind tag reply)⟩ } } := by
  rw [State.pfuTakes_eq (u := s.freed time) h, State.pfuCommit_answers (u := s.freed time) hr rfl p reply]
  simp [State.freed, State.portFreed, State.beginAt, Port.serve_busy busy, Lnk.answer, service]

/-- An event that answers nothing and publishes to the other blocks. -/
theorem State.freed_publishes {w : PfuWork} (h : body { pfu := s.pfu } = w) (reply : w.reply = none)
    (others : NotToPfu w.events) : let u := (s.freed time).pfuTakes body
      Acts .pfu time s u ∧ u.pfu = w.pfu ∧ u.finish.pfu = w.pfu ∧ u.port = (s.freed time).port.ask .pfu w.ask ∧
        u.agenda = w.events := by
  rw [State.pfuTakes_eq (u := s.freed time) h]
  exact ⟨⟨rfl, othersKept_pfu s _ _ _ _ _, noticesOnly_posts _ _ _⟩, rfl,
    State.pfuCommit_finish_pfu (u := s.freed time) hr notToPfu_nil others, rfl, pfuOut_noReply reply⟩

end

/-! ## A page read of a load (R181) -/

section
variable {w : PfuWork} {page : Nat} {again : Bool}

theorem pfuReadEnd_load (h : w.pfu.task = .load page again) (outcome : PageEnd) :
    pfuReadEnd outcome w = loadPage page again outcome w := by
  simp only [pfuReadEnd, h]

theorem loadPage_again : loadPage page false .noAnswer w =
    { w with pfu := { w.pfu with task := .load page true }, ask := some (.pageRead page) } := rfl

theorem loadPage_fails : loadPage page true .noAnswer w =
    endLoad (some .memory) { w with pfu := { w.pfu with active := [] } } := rfl

theorem loadPage_next (bytes : Vector Byte 64) (h : page < 63) : loadPage page again (.done bytes) w = { w with
    pfu := { w.pfu with
      active := w.pfu.active.writeList (64 * page) bytes.toList, task := .load (page + 1) false }
    ask := some (.pageRead (page + 1)) } := if_pos h

theorem loadPage_last (bytes : Vector Byte 64) (h : ¬ page < 63) : loadPage page again (.done bytes) w =
    endLoad (validate (w.pfu.active.writeList (64 * page) bytes.toList))
      { w with pfu := { w.pfu with active := w.pfu.active.writeList (64 * page) bytes.toList } } := if_neg h

/-- A load that ends with no finding leaves the part CONFIGURED, with the profile of the image in use. -/
theorem endLoad_valid : let e := endLoad none w
    e.pfu = { w.pfu with
      conf := .configured, inUse := some (profileOf w.pfu.active), edit := w.pfu.active, task := .idle } ∧
    e.reply = w.reply ∧ e.events = w.events ++ toBlocks confBlocks (.conf w.pfu.conf .configured) := ⟨rfl, rfl, rfl⟩

/-- A load that ends with a finding leaves the part UNCONFIGURED. -/
theorem endLoad_found (f : Finding) : let e := endLoad (some f) w
    e.pfu = { w.pfu with conf := .unconfigured, inUse := none, edit := w.pfu.active, task := .idle } ∧
    e.reply = w.reply ∧ e.events = w.events ++ toBlocks confBlocks (.conf w.pfu.conf .unconfigured) := ⟨rfl, rfl, rfl⟩

end

/-! ## A page read of a PROFILE READ (R182) -/

section
variable {w : PfuWork} {address count page : Nat} {again : Bool} {sofar : List Byte}

theorem pfuReadEnd_read (h : w.pfu.task = .read address count page again sofar) (outcome : PageEnd) :
    pfuReadEnd outcome w = readPage address count page again sofar outcome w := by
  simp only [pfuReadEnd, h]

theorem readPage_again : readPage address count page false sofar .noAnswer w = { w with
    pfu := { w.pfu with task := .read address count page true sofar }, ask := some (.pageRead page) } := rfl

theorem readPage_fails : readPage address count page true sofar .noAnswer w =
    { w with pfu := { w.pfu with task := .idle }, reply := some [8#8] } := rfl

theorem readPage_next (bytes : Vector Byte 64) (h : page < (address + count - 1) / 64) :
    readPage address count page again sofar (.done bytes) w = { w with
      pfu := { w.pfu with task := .read address count (page + 1) false (sofar ++ bytes.toList) }
      ask := some (.pageRead (page + 1)) } := if_pos h

theorem readPage_last (bytes : Vector Byte 64) (h : ¬ page < (address + count - 1) / 64) :
    readPage address count page again sofar (.done bytes) w = { w with
      pfu := { w.pfu with task := .idle }
      reply := some (0#8 :: ((sofar ++ bytes.toList).drop (address % 64)).take count) } := if_neg h

end

/-- Settles O57: a load and a PROFILE READ, each by the outcome and by whether a page is left to read. -/
theorem pageReadsLoadAndAnswer : Obligations.PageReadsLoadAndAnswer := by
  intro dt outcome page s hr hbusy steps ends
  have stepped {p : Pfu} {next : Nat}
      (h : pfuReadEnd outcome { pfu := s.pfu } = { pfu := p, ask := some (.pageRead next) }) : steps p next := by
    obtain ⟨q, finish, asked⟩ := State.freed_asks hr (s.now + dt) h
    exact ⟨q, (exec_pageReadEnd hbusy dt outcome).trans (congrArg _ finish), asked⟩
  have ended {w : PfuWork} (h : pfuReadEnd outcome { pfu := s.pfu } = w) (reply : w.reply = none)
      (events : w.events = toBlocks confBlocks (.conf s.pfu.conf w.pfu.conf)) : ends w.pfu := by
    obtain ⟨acts, pfu, finish, -, agenda⟩ :=
      State.freed_publishes hr (s.now + dt) h reply (events ▸ notToPfu_confBlocks _)
    exact ⟨_, exec_pageReadEnd hbusy dt outcome, acts, pfu, finish, agenda.trans events⟩
  refine ⟨fun again htask => ?load, fun address count again sofar tag htask hservice => ?read⟩
  case load =>
    have load := pfuReadEnd_load (w := { pfu := s.pfu }) htask outcome
    cases outcome with
    | noAnswer =>
      cases again with
      | false => exact stepped (load.trans loadPage_again)
      | true =>
        have ⟨_, reply, events⟩ := endLoad_found (w := { pfu := { s.pfu with active := [] } }) .memory
        exact ended (load.trans loadPage_fails) reply events
    | done bytes =>
      dsimp -zeta only
      intro image
      by_cases hnext : page < 63
      · rw [if_pos hnext]
        exact stepped (load.trans (loadPage_next bytes hnext))
      rw [if_neg hnext]
      have last := load.trans (loadPage_last bytes hnext)
      change _ = endLoad (validate image) { pfu := { s.pfu with active := image } } at last
      cases hvalid : validate image with
      | none =>
        have ⟨_, reply, events⟩ := endLoad_valid (w := { pfu := { s.pfu with active := image } })
        exact ended (hvalid ▸ last) reply events
      | some f =>
        have ⟨_, reply, events⟩ := endLoad_found (w := { pfu := { s.pfu with active := image } }) f
        exact ended (hvalid ▸ last) reply events
  case read =>
    intro answered
    have read := pfuReadEnd_read (w := { pfu := s.pfu }) htask outcome
    have replied {reply : List Byte}
        (h : pfuReadEnd outcome { pfu := s.pfu } = { pfu := { s.pfu with task := .idle }, reply := some reply }) :
        answered reply :=
      (exec_pageReadEnd hbusy dt outcome).trans
        (congrArg _ (State.freed_answers hr (s.now + dt) hbusy hservice h))
    cases outcome with
    | noAnswer =>
      cases again with
      | false => exact stepped (read.trans readPage_again)
      | true => exact replied (read.trans readPage_fails)
    | done bytes =>
      dsimp only
      split
      case isTrue hnext => exact stepped (read.trans (readPage_next bytes hnext))
      case isFalse hnext => exact replied (read.trans (readPage_last bytes hnext))

/-! ## A page write of an apply (R183, R184) -/

section
variable {w : PfuWork} {page : Nat} {again : Bool} (h : w.pfu.task = .apply page again)
include h

theorem pfuWriteEnd_next (hnext : page < 63) : pfuWriteEnd .equal w = { w with
    pfu := { w.pfu with task := .apply (page + 1) false }, ask := some (pageOf w.pfu.edit (page + 1)) } := by
  simp only [pfuWriteEnd, h, if_true]
  exact if_pos hnext

theorem pfuWriteEnd_last (hnext : ¬ page < 63) : pfuWriteEnd .equal w = completeApply w := by
  simp only [pfuWriteEnd, h, if_true]
  exact if_neg hnext

theorem pfuWriteEnd_again {outcome : WriteEnd} (ho : outcome ≠ .equal) (hagain : again = false) :
    pfuWriteEnd outcome w = { w with
      pfu := { w.pfu with task := .apply page true }, ask := some (pageOf w.pfu.edit page) } := by
  simp [pfuWriteEnd, h, ho, hagain]

theorem pfuWriteEnd_fails {outcome : WriteEnd} (ho : outcome ≠ .equal) (hagain : again = true) :
    pfuWriteEnd outcome w = failApply page w := by
  simp [pfuWriteEnd, h, ho, hagain]

end

/-- Settles O58: an apply by the outcome, by whether a page is left to write and by whether the page is on its second
attempt. -/
theorem pageWritesApplyTheProfile : Obligations.PageWritesApplyTheProfile := by
  intro dt outcome page bytes again s hr hbusy htask steps ends
  have stepped {n : Nat} {once : Bool} (h : pfuWriteEnd outcome { pfu := s.pfu } =
      { pfu := { s.pfu with task := .apply n once }, ask := some (pageOf s.pfu.edit n) }) : steps n once := by
    obtain ⟨q, finish, asked⟩ := State.freed_asks hr (s.now + dt) h
    exact ⟨q, (exec_pageWriteEnd hbusy dt outcome).trans (congrArg _ finish), asked⟩
  have ended {w : PfuWork} {before : List (Block × Event)} (asks : Port → Prop)
      (h : pfuWriteEnd outcome { pfu := s.pfu } = w) (reply : w.reply = none) (hbefore : NotToPfu before)
      (hasks : ∀ p : Port, asks (p.ask .pfu w.ask))
      (events : w.events = before ++ toBlocks confBlocks (.conf s.pfu.conf w.pfu.conf)) :
      ends w.pfu before asks := by
    obtain ⟨acts, pfu, finish, port, agenda⟩ := State.freed_publishes hr (s.now + dt) h reply
      (events ▸ notToPfu_append.2 ⟨hbefore, notToPfu_confBlocks _⟩)
    exact ⟨_, exec_pageWriteEnd hbusy dt outcome, acts, pfu, finish, port ▸ hasks _, agenda.trans events⟩
  by_cases hequal : outcome = .equal
  · subst hequal
    rw [if_pos rfl]
    by_cases hnext : page < 63
    · rw [if_pos hnext]
      exact stepped (pfuWriteEnd_next (w := { pfu := s.pfu }) htask hnext)
    · rw [if_neg hnext]
      exact ended (fun _ => True) (pfuWriteEnd_last (w := { pfu := s.pfu }) htask hnext) rfl (by simp)
        (fun _ => trivial) rfl
  rw [if_neg hequal]
  cases hagain : again with
  | false => exact stepped (pfuWriteEnd_again (w := { pfu := s.pfu }) htask hequal hagain)
  | true =>
    exact ended (fun p => p.busy = some (.pfu, .pageRead 0) ∨ p.pfuWaits = some (.pageRead 0))
      (pfuWriteEnd_fails (w := { pfu := s.pfu }) htask hequal hagain) rfl notToPfu_nil
      (fun p => Port.ask_pfu p (.pageRead 0)) rfl

end Sys2Proof.Machine

end


section
/-! PROOFS. PROFILE_READ, PROFILE_WRITE, PROFILE_DISCARD and PROFILE_APPLY. -/

namespace Sys2Proof.Machine

open Sys2Proof.Safety

/-! ## The commands -/

theorem rd16_field16_behind {pre : List Byte} {k : Nat} (hk : pre.length = k) (x : BitVec 16) (rest : List Byte) :
    rd16 (pre ++ (field16 x ++ rest)) k = x.toNat :=
  (congrArg (rd16 _) (Nat.zero_add k).symm).trans
    ((rd16_append_right hk _ 0).trans (rd16_be16 (Nat.le_of_lt_succ x.isLt) rest))

section
variable {s : State} (h : LinkFree s) (dt : Micros) (tag : Byte)
include h

theorem exec_profileRead (source sect : Byte) (offset : BitVec 16) (count : Byte) :
    exec (.profileRead dt tag source sect offset count) s =
      .next ((s.inService (s.now + dt) 0x30#8 tag).pfuTakes
        (bodyProfileRead source.toNat sect.toNat offset.toNat count.toNat)).finish := by
  have field := rd16_field16_behind (pre := [source, sect]) rfl offset [count]
  rw [← field]
  exact exec_own (c := .profileRead dt tag source sect offset count) rfl h rfl rfl

theorem exec_profileWrite (sect : Byte) (offset : BitVec 16) {bytes : List Byte} (nonempty : 1 ≤ bytes.length)
    (fits : bytes.length ≤ 112) : exec (.profileWrite dt tag sect offset bytes) s =
      .next ((s.inService (s.now + dt) 0x31#8 tag).pfuTakes
        (bodyProfileWrite (s.inService (s.now + dt) 0x31#8 tag) sect.toNat offset.toNat bytes)).finish := by
  have field := rd16_field16_behind (pre := [sect]) rfl offset bytes
  have allowed : lengthAllowed 0x31 (sect :: (field16 offset ++ bytes)).length = true := by
    simp [lengthAllowed, field16, length_be16]; omega
  rw [← field]
  exact exec_own (c := .profileWrite dt tag sect offset bytes) rfl h rfl allowed

theorem exec_profileDiscard : exec (.profileDiscard dt tag) s =
    .next ((s.inService (s.now + dt) 0x33#8 tag).pfuTakes bodyProfileDiscard).finish :=
  exec_own (c := .profileDiscard dt tag) rfl h rfl rfl

theorem exec_profileApply : exec (.profileApply dt tag) s =
    .next ((s.inService (s.now + dt) 0x32#8 tag).pfuTakes
      (bodyProfileApply (s.inService (s.now + dt) 0x32#8 tag))).finish :=
  exec_own (c := .profileApply dt tag) rfl h rfl rfl

end

/-! ## Where they end -/

section
variable {s : State} (hfree : LinkFree s) (time : Micros) (kind tag : Byte) {body : PfuWork → PfuWork}
include hfree

/-- A request whose event answers it and publishes nothing. -/
theorem State.inService_answers {p : Pfu} {reply : List Byte}
    (h : body { pfu := s.pfu } = { pfu := p, reply := some reply }) :
    ((s.inService time kind tag).pfuTakes body).finish = { s with
      now := time, agenda := [], schedule := s.schedule.drop 1, port := s.port.serve, pfu := p
      lnk := { s.lnk with service := some ⟨kind, tag, some (replyFrame kind tag reply)⟩ } } := by
  rw [State.pfuTakes_eq (u := s.inService time kind tag) h]
  exact State.pfuCommit_answers (u := s.inService time kind tag) hfree.2 rfl p reply

/-- A request whose reply awaits an operation of the port. -/
theorem State.inService_asks {p : Pfu} {op : PortOp} (h : body { pfu := s.pfu } = { pfu := p, ask := some op }) :
    ∃ q : Port, ((s.inService time kind tag).pfuTakes body).finish = { s with
        now := time, agenda := [], port := q, pfu := p, lnk := { s.lnk with service := some ⟨kind, tag, none⟩ } } ∧
      (q.busy = some (.pfu, op) ∨ q.pfuWaits = some op) := by
  rw [State.pfuTakes_eq (u := s.inService time kind tag) h,
    State.pfuCommit_asks (u := s.inService time kind tag) hfree.2 rfl p op]
  exact ⟨_, rfl, Port.ask_pfu _ op⟩

end

/-! ## PROFILE READ (R182) -/

section
variable {source sect offset count : Nat} (w : PfuWork)

theorem bodyProfileRead_noSection (h : sectionPlace sect = none) :
    bodyProfileRead source sect offset count w = { w with reply := some [5#8] } := by
  simp only [bodyProfileRead, h]
  rfl

/-- The tests of a PROFILE READ that names a section, in their order, and what each has it do. -/
theorem bodyProfileRead_section {p : SectionPlace} (h : sectionPlace sect = some p) :
    let a := p.address + offset
    bodyProfileRead source sect offset count w =
      if 1 < source ∨ count < 1 ∨ 112 < count ∨ p.size + 2 < offset + count then { w with reply := some [5#8] }
      else if w.pfu.conf = .loading then { w with reply := some [8#8] }
      else if source = 1 then { w with reply := some (0#8 :: w.pfu.edit.slice a count) }
      else if w.pfu.conf = .applying then { w with reply := some [8#8] }
      else { w with
        pfu := { w.pfu with task := .read a count (a / 64) false [] }, ask := some (.pageRead (a / 64)) } := by
  simp only [bodyProfileRead, h]
  rfl

end

/-! ## PROFILE WRITE and PROFILE DISCARD (R182) -/

theorem Conf.busy_iff (c : Conf) : c.busy = true ↔ c = .loading ∨ c = .applying := by
  cases c <;> simp [Conf.busy]

section
variable {s : State} {sect offset : Nat} {bytes : List Byte} {w : PfuWork}

theorem bodyProfileWrite_keyNeeded (key : s.level .serviceKey = false) :
    bodyProfileWrite s sect offset bytes w = { w with reply := some [7#8] } := by
  simp only [bodyProfileWrite, key]
  rfl

variable (key : ¬ s.level .serviceKey = false)
include key

theorem bodyProfileWrite_busy (busy : w.pfu.conf.busy = true) :
    bodyProfileWrite s sect offset bytes w = { w with reply := some [8#8] } := by
  simp only [bodyProfileWrite, key, busy]
  rfl

variable (idle : ¬ w.pfu.conf.busy = true)
include idle

theorem bodyProfileWrite_noSection (h : sectionPlace sect = none) :
    bodyProfileWrite s sect offset bytes w = { w with reply := some [5#8] } := by
  simp only [bodyProfileWrite, key, idle, h]
  rfl

/-- The bytes go into the edit image where they fit the section. -/
theorem bodyProfileWrite_section {p : SectionPlace} (h : sectionPlace sect = some p) :
    bodyProfileWrite s sect offset bytes w =
      if p.size < offset + bytes.length then { w with reply := some [5#8] }
      else { w with
        pfu := { w.pfu with edit := w.pfu.edit.writeList (p.address + offset) bytes }, reply := some [0#8] } := by
  simp only [bodyProfileWrite, key, idle, h]
  rfl

end

theorem bodyProfileDiscard_busy {w : PfuWork} (busy : w.pfu.conf.busy = true) :
    bodyProfileDiscard w = { w with reply := some [8#8] } := if_pos busy

theorem bodyProfileDiscard_idle {w : PfuWork} (idle : ¬ w.pfu.conf.busy = true) :
    bodyProfileDiscard w = { w with pfu := { w.pfu with edit := w.pfu.active }, reply := some [0#8] } := if_neg idle

/-! ## PROFILE APPLY (R183) -/

section
variable {s : State} {w : PfuWork}

theorem bodyProfileApply_keyNeeded (key : s.level .serviceKey = false) :
    bodyProfileApply s w = { w with reply := some [7#8] } := by
  simp only [bodyProfileApply, key]
  rfl

variable (key : ¬ s.level .serviceKey = false)
include key

theorem bodyProfileApply_busy (busy : w.pfu.conf.busy = true) :
    bodyProfileApply s w = { w with reply := some [8#8] } := by
  simp only [bodyProfileApply, key, busy]
  rfl

variable (idle : ¬ w.pfu.conf.busy = true)
include idle

theorem bodyProfileApply_active (active : s.bothDisengaged = false) :
    bodyProfileApply s w = { w with reply := some [2#8, 3#8] } := by
  simp only [bodyProfileApply, key, idle, active]
  rfl

variable (free : ¬ s.bothDisengaged = false) {image : Memory} (crcs : writeCrcs w.pfu.edit = image)
include free crcs

/-- An image whose fields do not pass is refused with its CRCs computed. -/
theorem bodyProfileApply_invalid {n offset : Nat} (h : fieldFinding image = some (.invalid n offset)) :
    bodyProfileApply s w = { w with
      pfu := { w.pfu with edit := image }, reply := some ([2#8, 9#8, byte n] ++ be16 offset) } := by
  simp only [bodyProfileApply, key, idle, free, crcs, h]
  rfl

/-- An accepted apply begins with the first page and is published. -/
theorem bodyProfileApply_accepted (h : fieldFinding image = none) : bodyProfileApply s w = { w with
    pfu := { w.pfu with conf := .applying, edit := image, task := .apply 0 false }
    ask := some (pageOf image 0)
    events := w.events ++ toBlocks confBlocks (.conf w.pfu.conf .applying)
    reply := some [1#8] } := by
  simp only [bodyProfileApply, key, idle, free, crcs, h]
  rfl

end

/-- Settles O59, by the tests of each request in order. -/
theorem profileRequestsComplete : Obligations.ProfileRequestsComplete := by
  intro dt tag s hfree answers busy
  have hbusy : s.pfu.conf.busy = true ↔ busy := s.pfu.conf.busy_iff
  refine ⟨fun source sect offset count => ?read, fun sect offset bytes nonempty fits => ?write, ?discard, ?apply⟩
  case read =>
    intro c n
    have command := exec_profileRead hfree dt tag source sect offset count
    have answered {reply : List Byte} (h : bodyProfileRead source.toNat sect.toNat offset.toNat count.toNat
        { pfu := s.pfu } = { pfu := s.pfu, reply := some reply }) : answers c 0x30#8 s.pfu reply :=
      command.trans (congrArg _ (State.inService_answers hfree _ _ _ h))
    cases place : sectionPlace sect.toNat with
    | none => exact answered (bodyProfileRead_noSection _ place)
    | some p =>
      have body := bodyProfileRead_section (source := source.toNat) (offset := offset.toNat) (count := count.toNat)
        { pfu := s.pfu } place
      dsimp -zeta only
      intro a
      split
      case isTrue bad => exact answered (body.trans (if_pos bad))
      case isFalse good =>
        replace body := body.trans (if_neg good)
        split
        case isTrue loading => exact answered (body.trans (if_pos loading))
        case isFalse loaded =>
          replace body := body.trans (if_neg loaded)
          split
          case isTrue edit => exact answered (body.trans (if_pos edit))
          case isFalse memory =>
            replace body := body.trans (if_neg memory)
            split
            case isTrue applying => exact answered (body.trans (if_pos applying))
            case isFalse idle =>
              obtain ⟨q, finish, asked⟩ :=
                State.inService_asks hfree (s.now + dt) 0x30#8 tag (body.trans (if_neg idle))
              exact ⟨q, command.trans (congrArg _ finish), asked⟩
  case write =>
    intro c
    have answered {p : Pfu} {reply : List Byte} (h : bodyProfileWrite (s.inService (s.now + dt) 0x31#8 tag) sect.toNat
        offset.toNat bytes { pfu := s.pfu } = { pfu := p, reply := some reply }) : answers c 0x31#8 p reply :=
      (exec_profileWrite hfree dt tag sect offset nonempty fits).trans
        (congrArg _ (State.inService_answers hfree _ _ _ h))
    split
    case isTrue key => exact answered (bodyProfileWrite_keyNeeded key)
    case isFalse key =>
      split
      case isTrue inWork => exact answered (bodyProfileWrite_busy key (hbusy.2 inWork))
      case isFalse idle =>
        have idle := mt hbusy.1 idle
        cases place : sectionPlace sect.toNat with
        | none => exact answered (bodyProfileWrite_noSection key idle place)
        | some p =>
          have body := bodyProfileWrite_section (s := s.inService (s.now + dt) 0x31#8 tag) (offset := offset.toNat)
            (bytes := bytes) (w := { pfu := s.pfu }) key idle place
          dsimp only
          split
          case isTrue long => exact answered (body.trans (if_pos long))
          case isFalse room => exact answered (body.trans (if_neg room))
  case discard =>
    have answered {p : Pfu} {reply : List Byte}
        (h : bodyProfileDiscard { pfu := s.pfu } = { pfu := p, reply := some reply }) :
        answers (.profileDiscard dt tag) 0x33#8 p reply :=
      (exec_profileDiscard hfree dt tag).trans (congrArg _ (State.inService_answers hfree _ _ _ h))
    split
    case isTrue inWork => exact answered (bodyProfileDiscard_busy (hbusy.2 inWork))
    case isFalse idle => exact answered (bodyProfileDiscard_idle (mt hbusy.1 idle))
  case apply =>
    intro c image
    have crcs : writeCrcs s.pfu.edit = image := rfl
    clear_value image
    let u := s.inService (s.now + dt) 0x32#8 tag
    have command := exec_profileApply hfree dt tag
    have answered {p : Pfu} {reply : List Byte}
        (h : bodyProfileApply u { pfu := s.pfu } = { pfu := p, reply := some reply }) : answers c 0x32#8 p reply :=
      command.trans (congrArg _ (State.inService_answers hfree _ _ _ h))
    split
    case isTrue key => exact answered (bodyProfileApply_keyNeeded key)
    case isFalse key =>
      split
      case isTrue inWork => exact answered (bodyProfileApply_busy key (hbusy.2 inWork))
      case isFalse idle =>
        have idle := mt hbusy.1 idle
        split
        case isTrue active => exact answered (bodyProfileApply_active key idle active)
        case isFalse free =>
          obtain finding | ⟨n, off, finding⟩ := fieldFinding_cases image
          · have accepted := bodyProfileApply_accepted (s := u) (w := { pfu := s.pfu }) key idle free crcs finding
            rw [State.pfuTakes_eq (u := u) accepted] at command
            rw [finding]
            exact ⟨_, command, ⟨rfl, othersKept_pfu s _ _ _ _ _, noticesOnly_posts _ _ _⟩, rfl,
              State.pfuCommit_finish_pfu (u := u) hfree.2 notToPfu_nil (notToPfu_confBlocks _), Port.ask_pfu _ _,
              rfl⟩
          · rw [finding]
            exact answered (bodyProfileApply_invalid (s := u) (w := { pfu := s.pfu }) key idle free crcs finding)

end Sys2Proof.Machine

end


section
/-! PROOFS. The step, and the images of the profile area: every event of the Profile Unit keeps their canonical form. -/

namespace Sys2Proof.Machine

open Sys2Proof.Safety

/-! ## The step (log entry 1) -/

theorem step_cons {s : State} {c : Instr} {rest : List Instr} (h : s.pending = c :: rest) :
    step s = exec c { s with pending := rest } := by
  rw [step, h]

theorem step_nil {s : State} (h : s.pending = []) : step s = .next s := by
  rw [step, h]

/-- Settles O1, by what stands at the front of the queue. -/
theorem stepTakesTheFrontCommand : Obligations.StepTakesTheFrontCommand :=
  fun _ => ⟨fun _ _ => step_cons, step_nil⟩

/-! ## The canonical form as a law of the Profile Unit alone (log entry 7) -/

/-- Both images of the profile area have the form. -/
structure Pfu.Canonical (p : Pfu) : Prop where
  active : p.active.wf = true
  edit : p.edit.wf = true

theorem imagesCanonical_iff (s : State) : ImagesCanonical s ↔ s.pfu.Canonical :=
  ⟨fun ⟨active, edit⟩ => ⟨active, edit⟩, fun ⟨active, edit⟩ => ⟨active, edit⟩⟩

theorem Pfu.reset_canonical : Pfu.reset.Canonical := ⟨Memory.reset_wf.1, Memory.reset_wf.2⟩

section
variable {w : PfuWork}

/-- At the end of a load the edit image is the active one (R181). -/
theorem endLoad_canonical (h : w.pfu.active.wf = true) (finding : Option Finding) :
    (endLoad finding w).pfu.Canonical := by
  cases finding <;> exact ⟨h, h⟩

variable (h : w.pfu.Canonical)
include h

/-- A page of a load is written into the active image; a page that cannot be read erases it (R181). -/
theorem loadPage_canonical (page : Nat) (again : Bool) (outcome : PageEnd) :
    (loadPage page again outcome w).pfu.Canonical := by
  cases outcome with
  | noAnswer =>
    cases again with
    | true =>
      refine endLoad_canonical ?_ (some .memory)
      rfl
    | false => exact ⟨h.active, h.edit⟩
  | done bytes =>
    have written := Memory.writeList_wf bytes.toList (pageAddress page) h.active
    unfold loadPage
    dsimp only
    split
    · exact ⟨written, h.edit⟩
    · exact endLoad_canonical written _

theorem readPage_canonical (address count page : Nat) (again : Bool) (sofar : List Byte) (outcome : PageEnd) :
    (readPage address count page again sofar outcome w).pfu.Canonical := by
  cases outcome with
  | noAnswer => cases again <;> exact ⟨h.active, h.edit⟩
  | done bytes =>
    unfold readPage
    dsimp only
    split <;> exact ⟨h.active, h.edit⟩

theorem pfuReadEnd_canonical (outcome : PageEnd) : (pfuReadEnd outcome w).pfu.Canonical := by
  unfold pfuReadEnd
  split
  · exact loadPage_canonical h _ _ outcome
  · exact readPage_canonical h _ _ _ _ _ outcome
  · exact h

/-- A complete apply makes the edit image the active one; a page written or a failure leaves both (R184). -/
theorem pfuWriteEnd_canonical (outcome : WriteEnd) : (pfuWriteEnd outcome w).pfu.Canonical := by
  unfold pfuWriteEnd
  split
  case h_2 => exact h
  case h_1 =>
    split
    · split
      · exact ⟨h.active, h.edit⟩
      · exact ⟨h.edit, h.edit⟩
    · split <;> exact ⟨h.active, h.edit⟩

theorem bodyProfileRead_canonical (source sect offset count : Nat) :
    (bodyProfileRead source sect offset count w).pfu.Canonical := by
  unfold bodyProfileRead
  split
  · exact h
  split
  · exact h
  split
  · exact h
  split
  · exact h
  split
  · exact h
  · exact ⟨h.active, h.edit⟩

theorem bodyProfileWrite_canonical (s : State) (sect offset : Nat) (bytes : List Byte) :
    (bodyProfileWrite s sect offset bytes w).pfu.Canonical := by
  unfold bodyProfileWrite
  split
  · exact h
  split
  · exact h
  split
  · exact h
  split
  · exact h
  · exact ⟨h.active, Memory.writeList_wf _ _ h.edit⟩

theorem bodyProfileDiscard_canonical : (bodyProfileDiscard w).pfu.Canonical := by
  unfold bodyProfileDiscard
  split
  · exact h
  · exact ⟨h.active, h.active⟩

/-- An apply that passes the tests before the field checks computes the CRCs of the edit image (R183). -/
theorem bodyProfileApply_canonical (s : State) : (bodyProfileApply s w).pfu.Canonical := by
  have crcs : (writeCrcs w.pfu.edit).wf = true := Memory.writeCrcs_wf h.edit
  unfold bodyProfileApply
  split
  · exact h
  split
  · exact h
  split
  · exact h
  generalize writeCrcs w.pfu.edit = edit at crcs
  obtain hf | ⟨n, offset, hf⟩ := fieldFinding_cases edit <;> simp only [hf] <;> exact ⟨h.active, crcs⟩

/-- The supply monitor has no part in the images (R185). -/
theorem pfuInputs_canonical (s : State) : (pfuInputs s w).pfu.Canonical := by
  obtain hw | ⟨_, _, hw⟩ := pfuInputs_cases s w <;> rw [hw] <;> exact ⟨h.active, h.edit⟩

theorem pfuRecoveryExpired_canonical (s : State) : (pfuRecoveryExpired s w).pfu.Canonical := by
  unfold pfuRecoveryExpired
  split <;> exact ⟨h.active, h.edit⟩

theorem PfuBody.canonical {s : State} {body : PfuWork → PfuWork} (hbody : PfuBody s body) :
    (body w).pfu.Canonical := by
  cases hbody with
  | inputs => exact pfuInputs_canonical h s
  | recovered => exact pfuRecoveryExpired_canonical h s
  | readEnd outcome => exact pfuReadEnd_canonical h outcome
  | writeEnd outcome => exact pfuWriteEnd_canonical h outcome
  | read source sect offset count => exact bodyProfileRead_canonical h source sect offset count
  | write sect offset bytes => exact bodyProfileWrite_canonical h s sect offset bytes
  | apply => exact bodyProfileApply_canonical h s
  | discard => exact bodyProfileDiscard_canonical h

end

theorem imagesCanonical_kept : KeptByEvents ImagesCanonical where
  still := by
    intro s t h _ hpfu _
    rwa [imagesCanonical_iff, hpfu, ← imagesCanonical_iff]
  lockouts _ h := h
  profile := by
    intro s body hbody h
    rw [imagesCanonical_iff] at h ⊢
    exact hbody.canonical (w := { pfu := s.pfu }) h
  reset _ _ _ _ := (imagesCanonical_iff _).2 Pfu.reset_canonical

/-- Settles O6: every event of the Profile Unit keeps the form, and no other event touches the images. -/
theorem stepKeepsImagesCanonical : Obligations.StepKeepsImagesCanonical :=
  fun _ _ h => imagesCanonical_kept.step h

end Sys2Proof.Machine

end


section
/-! PROOFS. The blocks' timer expiries: inputs, gauges, profile, receiver and counters stand at the end of the
command. -/

namespace Sys2Proof.Machine

open Sys2Proof.Safety

/-- The profile with its supply state stands as well as what `Carried` names. -/
theorem Carried.inputsAndProfileKept {s t : State} (h : Carried s t) (hpfu : t.pfu = s.pfu) :
    InputsAndProfileKept s t :=
  ⟨h.isu, h.tgu, hpfu, h.ratePinHigh, h.pending, h.rx, h.gapTimer, h.waiting, h.mask, h.faults, h.baudHigh⟩

theorem State.lbuTakes_pfuPassedBy (s : State) (b : Lbu) (r : List RecordBody) : PfuPassedBy s (s.lbuTakes b r) :=
  ⟨rfl, _, s.lbuTakes_agenda b r, lbuOut_notToPfu s b r⟩

theorem State.deuCommit_pfuPassedBy (s : State) (w : DeuWork) : PfuPassedBy s (s.deuCommit w) :=
  ⟨rfl, _, s.deuCommit_agenda w, deuOut_notToPfu s.deu w⟩

theorem State.ppuCommit_pfuPassedBy (s : State) (w : PpuWork) : PfuPassedBy s (s.ppuCommit w) :=
  ⟨rfl, _, s.ppuCommit_agenda w, ppuOut_notToPfu s.ppu w⟩

theorem State.lkuCommit_pfuPassedBy (s : State) (w : LkuWork) : PfuPassedBy s (s.lkuCommit w) :=
  ⟨rfl, _, s.lkuCommit_agenda w, lkuOut_notToPfu s s.lku (lkuSettled s w.lku) w⟩

theorem State.tauCommit_pfuPassedBy (s : State) (w : TauWork) : PfuPassedBy s (s.tauCommit w) :=
  ⟨rfl, _, s.tauCommit_agenda w, tauOut_notToPfu s.tau w.settled⟩

theorem State.drcCommit_pfuPassedBy (s : State) (w : DrcWork) : PfuPassedBy s (s.drcCommit w) :=
  ⟨rfl, _, s.drcCommit_agenda w, drcOut_notToPfu w⟩

/-- A block's timer expiry hands over no change of configuration and nothing for the Profile Unit. -/
theorem ownEffect_blockExpiry {c : Instr} (hc : isBlockExpiry c = true) (s : State) :
    PassedOn s (ownEffect c s) ∧ PfuPassedBy s (ownEffect c s) := by
  cases c with
  | recloseTimerExpiry | lowPressureTimerExpiry | noRiseTimerExpiry =>
    exact ⟨s.lbuTakes_passedOn _ _, s.lbuTakes_pfuPassedBy _ _⟩
  | permissiveTimerExpiry | confirmTimerExpiry | retryOffExpiry | restoreTimerExpiry | idleTimerExpiry
  | positionTimerExpiry | overspeedTimerExpiry | slipTimerExpiry | stallTimerExpiry =>
    exact ⟨s.deuCommit_passedOn _, s.deuCommit_pfuPassedBy _⟩
  | persistTimerExpiry | dryTimerExpiry | dryRunClearExpiry =>
    exact ⟨s.ppuCommit_passedOn _, s.ppuCommit_pfuPassedBy _⟩
  | overrideTimerExpiry => exact ⟨s.lkuCommit_passedOn _, s.lkuCommit_pfuPassedBy _⟩
  | transferTimerExpiry | reclaimTimerExpiry => exact ⟨s.tauCommit_passedOn _, s.tauCommit_pfuPassedBy _⟩
  | syncTimerExpiry => exact ⟨s.drcCommit_passedOn _, s.drcCommit_pfuPassedBy _⟩
  | _ => cases hc

/-- An effect that hands over no change of configuration and nothing for the Profile Unit, taken at the beginning of a
command with no restart pending and followed to the end of the command. -/
theorem State.finish_inputsAndProfileKept {s u : State} {time : Micros} (hr : s.lnk.restart = none)
    (passed : PassedOn (s.beginAt time) u) (passedBy : PfuPassedBy (s.beginAt time) u) :
    InputsAndProfileKept s u.finish := by
  obtain ⟨carried, events, agenda, noConf⟩ := passed
  obtain ⟨pfu, events', agenda', notToPfu⟩ := passedBy
  have noConf : NoConf u.agenda := agenda ▸ noConf
  have notToPfu : NotToPfu u.agenda := agenda' ▸ notToPfu
  have restart : u.lnk.restart = none := by simpa [hr] using carried.restart
  exact (carried.trans (.finish noConf restart)).inputsAndProfileKept
    ((State.finish_pfu noConf notToPfu restart).trans pfu)

/-- Settles O13: the expiry's own effect touches one block, and no neighbour hears of a change of configuration or hands
anything to the Profile Unit. -/
theorem blockExpiriesLeaveInputsAndProfile : Obligations.BlockExpiriesLeaveInputsAndProfile := by
  intro c s t hc hr ht
  obtain he | ⟨hreset, -⟩ | ⟨-, time, -, he⟩ := exec_cases c s
  · cases he.symm.trans ht
    exact (Carried.refl s).inputsAndProfileKept rfl
  · cases c with
    | powerOnReset | pinReset => cases hc
    | _ => cases hreset
  · cases he.symm.trans ht
    obtain ⟨passed, passedBy⟩ := ownEffect_blockExpiry hc (s.beginAt time)
    exact State.finish_inputsAndProfileKept hr passed passedBy

end Sys2Proof.Machine

end


section
/-! PROOFS. Every command answers, keeps the queue of commands, and lets the time go on. -/

namespace Sys2Proof.Machine

open Sys2Proof.Safety

/-! ## The time and the queue of commands

A command takes its place in the queue and its time when it begins; no block's event moves either. -/

/-- What only the beginning of a command and a reset touch. -/
def State.timeAndQueue (s : State) : Micros × List Instr := (s.now, s.pending)

theorem Carried.timeAndQueue {s t : State} (h : Carried s t) : t.timeAndQueue = s.timeAndQueue :=
  congrArg₂ Prod.mk h.now h.pending

section
variable (s : State)

theorem State.pfuCommit_timeAndQueue (w : PfuWork) : (s.pfuCommit w).timeAndQueue = s.timeAndQueue :=
  congrArg₂ Prod.mk (s.pfuCommit_now w) (s.pfuCommit_pending w)

/-! Requests. -/

theorem State.onDrive_timeAndQueue (b : Byte) {f : Drive → State}
    (hf : ∀ d, (f d).timeAndQueue = s.timeAndQueue) : (s.onDrive b f).timeAndQueue = s.timeAndQueue := by
  unfold State.onDrive
  split
  · exact hf _
  · rfl

theorem State.clearFill_timeAndQueue : s.clearFill.timeAndQueue = s.timeAndQueue := by
  unfold State.clearFill
  split <;> rfl

theorem State.getTank_timeAndQueue (tank : Nat) : (s.getTank tank).timeAndQueue = s.timeAndQueue := by
  unfold State.getTank
  split <;> rfl

theorem State.setMask_timeAndQueue (mask : BitVec 16) : (s.setMask mask).timeAndQueue = s.timeAndQueue := by
  unfold State.setMask
  split <;> rfl

theorem State.requestRestart_timeAndQueue : s.requestRestart.timeAndQueue = s.timeAndQueue := by
  unfold State.requestRestart
  split
  · rfl
  · split <;> rfl

theorem State.own_timeAndQueue (kind : Nat) (b : List Byte) : (s.own kind b).timeAndQueue = s.timeAndQueue := by
  have answered {t : State} (h : Carried s t) (body : List Byte) : (t.answer body).timeAndQueue = s.timeAndQueue :=
    (h.trans (t.answer_passedOn body).1).timeAndQueue
  unfold State.own
  split
  case h_3 => exact s.getTank_timeAndQueue _
  case h_5 => exact s.setMask_timeAndQueue _
  case h_6 | h_7 => exact s.onDrive_timeAndQueue _ fun _ => answered (s.deuCommit_passedOn _).1 _
  case h_8 => exact answered (s.tauCommit_passedOn _).1 _
  case h_9 => exact answered (s.ppuCommit_passedOn _).1 _
  case h_10 => exact s.clearFill_timeAndQueue
  case h_11 | h_12 | h_13 => exact answered (s.lkuCommit_passedOn _).1 _
  case h_15 | h_17 | h_18 => exact (s.drcCommit_passedOn _).1.timeAndQueue
  case h_19 | h_20 | h_21 | h_22 => exact s.pfuCommit_timeAndQueue _
  case h_23 => exact s.requestRestart_timeAndQueue
  all_goals rfl

theorem State.serve_timeAndQueue (f : Frame) : (s.serve f).timeAndQueue = s.timeAndQueue := by
  unfold State.serve
  dsimp only
  split
  · rfl
  split
  · rfl
  · exact State.own_timeAndQueue _ _ _

theorem State.offerFrame_timeAndQueue (f : Frame) : (s.offerFrame f).timeAndQueue = s.timeAndQueue := by
  unfold State.offerFrame
  split
  · exact s.serve_timeAndQueue f
  · split <;> rfl

theorem State.replySent_timeAndQueue : s.replySent.timeAndQueue = s.timeAndQueue := by
  unfold State.replySent
  split
  · split
    · rfl
    · exact State.serve_timeAndQueue _ _
    · rfl
  · rfl

theorem State.receive_timeAndQueue (b : Byte) (framingError : Bool) :
    (s.receive b framingError).timeAndQueue = s.timeAndQueue := by
  unfold State.receive
  dsimp only
  split
  · split <;> rfl
  split
  · rfl
  unfold State.assemble
  dsimp only
  split
  · rfl
  split
  · rfl
  split
  · exact State.offerFrame_timeAndQueue _ _
  · rfl

/-! The ends of the port's operations. -/

theorem State.slotWriteEnded_timeAndQueue (outcome : WriteEnd) :
    (s.slotWriteEnded outcome).timeAndQueue = s.timeAndQueue := by
  unfold State.slotWriteEnded
  split
  · exact (s.portFreed.drcCommit_passedOn _).1.timeAndQueue
  · rfl

theorem State.slotReadEnded_timeAndQueue (outcome : SlotEnd) :
    (s.slotReadEnded outcome).timeAndQueue = s.timeAndQueue := by
  unfold State.slotReadEnded
  split
  · exact (s.portFreed.drcCommit_passedOn _).1.timeAndQueue
  · rfl

theorem State.pageReadEnded_timeAndQueue (outcome : PageEnd) :
    (s.pageReadEnded outcome).timeAndQueue = s.timeAndQueue := by
  unfold State.pageReadEnded
  split
  · exact s.portFreed.pfuCommit_timeAndQueue _
  · rfl

theorem State.pageWriteEnded_timeAndQueue (outcome : WriteEnd) :
    (s.pageWriteEnded outcome).timeAndQueue = s.timeAndQueue := by
  unfold State.pageWriteEnded
  split
  · exact s.portFreed.pfuCommit_timeAndQueue _
  · rfl

/-- A command that is no reset. -/
theorem ownEffect_timeAndQueue {c : Instr} (hc : isReset c = false) :
    (ownEffect c s).timeAndQueue = s.timeAndQueue := by
  cases c with
  | powerOnReset | pinReset => cases hc
  | hlrxByte _ b framingError => exact s.receive_timeAndQueue b framingError
  | replySent => exact s.replySent_timeAndQueue
  | halfPageWriteEnd _ outcome => exact s.slotWriteEnded_timeAndQueue outcome
  | slotReadEnd _ outcome => exact s.slotReadEnded_timeAndQueue outcome
  | pageReadEnd _ outcome => exact s.pageReadEnded_timeAndQueue outcome
  | pageWriteEnd _ outcome => exact s.pageWriteEnded_timeAndQueue outcome
  | recoveryTimerExpiry => exact s.pfuCommit_timeAndQueue _
  | recloseTimerExpiry | lowPressureTimerExpiry | noRiseTimerExpiry => exact (s.lbuTakes_passedOn _ _).1.timeAndQueue
  | permissiveTimerExpiry | confirmTimerExpiry | retryOffExpiry | restoreTimerExpiry | idleTimerExpiry
  | positionTimerExpiry | overspeedTimerExpiry | slipTimerExpiry | stallTimerExpiry =>
    exact (s.deuCommit_passedOn _).1.timeAndQueue
  | persistTimerExpiry | dryTimerExpiry | dryRunClearExpiry => exact (s.ppuCommit_passedOn _).1.timeAndQueue
  | overrideTimerExpiry => exact (s.lkuCommit_passedOn _).1.timeAndQueue
  | transferTimerExpiry | reclaimTimerExpiry => exact (s.tauCommit_passedOn _).1.timeAndQueue
  | syncTimerExpiry => exact (s.drcCommit_passedOn _).1.timeAndQueue
  | scan | pulse | holdTimerExpiry | stillTimerExpiry | gaugeCycle | gapTimerExpiry => rfl
  | _ => exact s.offerFrame_timeAndQueue _

/-! Publications. -/

theorem State.deliver_timeAndQueue (b : Block) (e : Event) : (s.deliver b e).timeAndQueue = s.timeAndQueue := by
  have passed {t : State} (p : PassedOn s t) : t.timeAndQueue = s.timeAndQueue :=
    p.1.timeAndQueue
  cases b with
  | isu | tgu => cases e <;> rfl
  | lbu => exact passed (s.lbuEvent_passedOn e)
  | deu => exact passed (s.deuEvent_passedOn e)
  | ppu => exact passed (s.ppuEvent_passedOn e)
  | lku => exact passed (s.lkuEvent_passedOn e)
  | tau => exact passed (s.tauEvent_passedOn e)
  | drc => exact passed (s.drcEvent_passedOn e)
  | lnk => exact passed (s.lnkEvent_passedOn e)
  | pfu => exact passed (s.pfuEvent_passedOn e)

theorem settle_timeAndQueue (n : Nat) : (settle n s).timeAndQueue = s.timeAndQueue :=
  settle_keeps_all (·.timeAndQueue = s.timeAndQueue) (fun _ ht => ht)
    (fun t b e left ht =>
      (State.deliver_timeAndQueue { t with agenda := left, schedule := t.schedule.drop 1 } b e).trans ht) n s rfl

/-- The queue of commands stands at the end of a command, also where a soft restart takes place. -/
theorem State.finish_pending : s.finish.pending = s.pending := by
  have settled : (settle Config.settleBound s).pending = s.pending := congrArg Prod.snd (settle_timeAndQueue s _)
  rw [State.finish]
  obtain hr | ⟨-, hr⟩ := State.restartIfDue_cases (settle Config.settleBound s) <;> rw [hr] <;> exact settled

end

/-! ## Where no soft restart takes place (R171)

A command that finds no restart pending can begin one, whose reply it does not send. -/

theorem unsent_kept : KeptByRecorder State.Unsent where
  still h _ ht := ht h
  takes _ h := State.drcTakes_unsent h _
  restart h sent := absurd h sent

theorem ownEffect_unsent {c : Instr} {s : State} (hc : isReset c = false) (hr : s.lnk.restart = none) :
    (ownEffect c s).Unsent := by
  have unsent : s.Unsent := fun r hr' => by simp [hr] at hr'
  by_cases hsync : c = .syncTimerExpiry
  · subst hsync
    exact State.drcTakes_unsent unsent _
  · exact unsent_kept.ownEffect unsent hc hsync fun _ pending => absurd hr pending

theorem settle_unsent (n : Nat) {s : State} (h : s.Unsent) : (settle n s).Unsent :=
  settle_keeps_all State.Unsent (fun _ ht => ht)
    (fun t b e left ht =>
      unsent_kept.deliver (s := { t with agenda := left, schedule := t.schedule.drop 1 }) ht b e) n s h

theorem State.finish_now {s : State} (h : s.Unsent) : s.finish.now = s.now := by
  have awaited : (settle Config.settleBound s).lnk.restart ≠ some ⟨true, true⟩ := fun due =>
    Bool.noConfusion (settle_unsent Config.settleBound h _ due)
  rw [State.finish, State.restartIfDue_awaited awaited]
  exact congrArg Prod.fst (settle_timeAndQueue s _)

/-- Settles O2, by the shape that all commands share: one whose timer does not run changes nothing, a hard reset keeps
the queue, and any other begins no earlier than the command before it and is followed to its end. -/
theorem everyCommandAnswersAndLeavesTheQueue : Obligations.EveryCommandAnswersAndLeavesTheQueue := by
  intro c s
  obtain he | ⟨hreset, he⟩ | ⟨hc, time, htime, he⟩ := exec_cases c s
  · exact ⟨s, he, rfl, id, fun _ _ => le_rfl⟩
  · cases c with
    | powerOnReset high | pinReset high => exact ⟨s.hardReset high, he, rfl, fun _ => rfl, nofun⟩
    | _ => cases hreset
  · have own := ownEffect_timeAndQueue (s.beginAt time) hc
    refine ⟨_, he, (State.finish_pending _).trans (congrArg Prod.snd own), fun _ => State.finish_agenda _,
      fun _ hr => ?_⟩
    have now := (State.finish_now (ownEffect_unsent (s := s.beginAt time) hc hr)).trans (congrArg Prod.fst own)
    exact htime.trans now.ge

end Sys2Proof.Machine

end


section
/-! PROOFS. The drives: what each operation of the Drive Engagement Unit makes of the drive it is for, and what it leaves
of the other. -/

namespace Sys2Proof.Machine

/-! ## The unit after each operation

A drive's record, the waiting list, the slot and the clutch, in the order of the operations. -/

/-- The record of a drive that enters DISENGAGED with cause `c` (R71, R76). -/
def DriveRec.idled (c : DriveCause) (r : DriveRec) : DriveRec :=
  { stopSeq { r with joined := none } with state := .disengaged, cause := some c, fault := none, phase := .none }

/-- The record after the demands a ROLLING AUX holds are withdrawn (R84, R90). -/
def DriveRec.rollDropped (r : DriveRec) : DriveRec :=
  { r with overspeed := .stopped, overspeedPosted := false, selectPosted := false }

/-- The record of a drive that enters FAULTED, with the road restore's timer started for one that is driven back (R75,
R87). -/
def DriveRec.faulted (s : State) (d : Drive) (k : FaultKind) (restore : Bool) (r : DriveRec) : DriveRec :=
  let r := { stopMonitors (stopSeq (DriveRec.rollDropped { r with joined := none })) with
    state := .faulted, cause := some (.fault k), fault := some k, pendingRelease := .none
    phase := if restore then .restore else .none }
  if restore then startSeq s .restore (s.confirmTime d) r else r

/-- The record of a drive that enters SHIFTING (R71 to R73). -/
def DriveRec.shiftStarted (s : State) (d : Drive) (r : DriveRec) : DriveRec :=
  { startSeq s .confirm (s.confirmTime d) { r with joined := none } with
    state := .shifting, cause := some .shiftStarted, retryUsed := false, phase := .driving }

/-- The record of a drive that enters RELEASING (R78 to R80). -/
def DriveRec.releaseStarted (s : State) (d : Drive) (r : DriveRec) : DriveRec :=
  DriveRec.rollDropped { startSeq s .confirm (s.confirmTime d) (stopMonitors { r with joined := none }) with
    state := .releasing, cause := some .releaseStarted, fault := none, retryUsed := false
    phase := .driving, pendingRelease := .none }

/-- The record of a drive that waits for idle to be released (R77). -/
def DriveRec.awaitsIdle (s : State) (r : DriveRec) : DriveRec :=
  { startSeq s .idle releaseIdle { r with releaseCut := true, joined := some s.now } with
    cause := some .releasePending, pendingRelease := .idleWait }

/-- The record of a drive whose shift is confirmed (R74). -/
def DriveRec.confirmed (s : State) (d : Drive) (r : DriveRec) : DriveRec :=
  { stopSeq r with state := turningState s d, cause := some .confirmed, phase := .none, motionArmed := true }

/-- The record of a drive once the idle test is made (R77). -/
def DriveRec.testedForIdle (s : State) (r : DriveRec) : DriveRec :=
  if r.pendingRelease = .idleWait ∧ s.atIdle then { stopSeq r with pendingRelease := .slotWait } else r

section
variable (s : State) (d : Drive) (w : DeuWork)

@[simp] theorem DeuWork.setRec_drive (r : DriveRec) : (w.setRec d r).drive d = r := PerDrive.get_set_self ..

theorem DeuWork.setRec_drive_other {e : Drive} (h : e ≠ d) (r : DriveRec) : (w.setRec d r).drive e = w.drive e :=
  PerDrive.get_set_other _ h r

@[simp] theorem DeuWork.setRec_waiting (r : DriveRec) : (w.setRec d r).deu.waiting = w.deu.waiting := rfl
@[simp] theorem DeuWork.setRec_holder (r : DriveRec) : (w.setRec d r).deu.holder = w.deu.holder := rfl
@[simp] theorem DeuWork.setRec_do2 (r : DriveRec) : (w.setRec d r).deu.do2 = w.deu.do2 := rfl

@[simp] theorem join_drive : (join s d w).drive d = { w.drive d with joined := some s.now } := by
  unfold join
  dsimp only
  split <;> exact w.setRec_drive d _

@[simp] theorem mem_join_waiting {e : Drive} : e ∈ (join s d w).deu.waiting ↔ e ∈ w.deu.waiting ∨ e = d := by
  unfold join
  dsimp only
  split
  case isTrue h =>
    have mem : d ∈ w.deu.waiting := by simpa using h
    exact ⟨.inl, fun h => h.elim id fun he => he ▸ mem⟩
  case isFalse => simp

@[simp] theorem join_holder : (join s d w).deu.holder = w.deu.holder := by
  unfold join
  dsimp only
  split <;> rfl

@[simp] theorem join_do2 : (join s d w).deu.do2 = w.deu.do2 := by
  unfold join
  dsimp only
  split <;> rfl

@[simp] theorem leave_drive : (leave d w).drive d = { w.drive d with joined := none } := w.setRec_drive d _

@[simp] theorem mem_leave_waiting {e : Drive} : e ∈ (leave d w).deu.waiting ↔ e ∈ w.deu.waiting ∧ e ≠ d := by
  simp [leave]

@[simp] theorem leave_holder : (leave d w).deu.holder = w.deu.holder := rfl
@[simp] theorem leave_do2 : (leave d w).deu.do2 = w.deu.do2 := rfl

@[simp] theorem freeSlot_drive (e : Drive) : (freeSlot d w).drive e = w.drive e := by
  unfold freeSlot
  split <;> rfl

@[simp] theorem freeSlot_waiting : (freeSlot d w).deu.waiting = w.deu.waiting := by
  unfold freeSlot
  split <;> rfl

@[simp] theorem freeSlot_holder {e : Drive} :
    (freeSlot d w).deu.holder = some e ↔ w.deu.holder = some e ∧ e ≠ d := by
  unfold freeSlot
  split
  case isTrue h => simp [h, eq_comm]
  case isFalse h => exact ⟨fun he => ⟨he, fun hd => h (hd ▸ he)⟩, And.left⟩

@[simp] theorem freeSlot_do2 : (freeSlot d w).deu.do2 = w.deu.do2 := by
  unfold freeSlot
  split <;> rfl

@[simp] theorem dropRollDemands_drive : (dropRollDemands d w).drive d = (w.drive d).rollDropped :=
  DeuWork.setRec_drive ..

@[simp] theorem dropRollDemands_waiting : (dropRollDemands d w).deu.waiting = w.deu.waiting := by
  simp only [dropRollDemands, DeuWork.setRec_waiting]
  split <;> split <;> rfl

@[simp] theorem dropRollDemands_holder : (dropRollDemands d w).deu.holder = w.deu.holder := by
  simp only [dropRollDemands, DeuWork.setRec_holder]
  split <;> split <;> rfl

@[simp] theorem dropRollDemands_do2 : (dropRollDemands d w).deu.do2 = w.deu.do2 := by
  simp only [dropRollDemands, DeuWork.setRec_do2]
  split <;> split <;> rfl

@[simp] theorem postRelease_drive : (postRelease d w).drive d = { w.drive d with releaseCut := true } := by
  unfold postRelease
  dsimp only
  split
  case isTrue h => rw [← h]
  case isFalse => exact w.setRec_drive d _

@[simp] theorem postRelease_waiting : (postRelease d w).deu.waiting = w.deu.waiting := by
  unfold postRelease
  dsimp only
  split <;> rfl

@[simp] theorem postRelease_holder : (postRelease d w).deu.holder = w.deu.holder := by
  unfold postRelease
  dsimp only
  split <;> rfl

@[simp] theorem postRelease_do2 : (postRelease d w).deu.do2 = w.deu.do2 := by
  unfold postRelease
  dsimp only
  split <;> rfl

@[simp] theorem dropReleaseDemands_drive :
    (dropReleaseDemands d w).drive d = { w.drive d with releaseCut := false } := DeuWork.setRec_drive ..

@[simp] theorem dropReleaseDemands_waiting : (dropReleaseDemands d w).deu.waiting = w.deu.waiting := by
  simp only [dropReleaseDemands, DeuWork.setRec_waiting]
  split <;> rfl

@[simp] theorem dropReleaseDemands_holder : (dropReleaseDemands d w).deu.holder = w.deu.holder := by
  simp only [dropReleaseDemands, DeuWork.setRec_holder]
  split <;> rfl

@[simp] theorem releasesClutch_drive (c : Prop) [Decidable c] (e : Drive) :
    (if c then clutch false w else w).drive e = w.drive e := by
  split <;> rfl

@[simp] theorem dropReleaseDemands_do2 : (dropReleaseDemands d w).deu.do2 = w.deu.do2 := by
  simp only [dropReleaseDemands, DeuWork.setRec_do2]
  split <;> rfl

@[simp] theorem enterFaulted_drive (k : FaultKind) (restore : Bool) :
    (enterFaulted s d k restore w).drive d = (w.drive d).faulted s d k restore := by
  have before : (dropRollDemands d (leave d w)).drive d =
      DriveRec.rollDropped { w.drive d with joined := none } := by simp
  have handed (v : DeuWork) (ops bodies) :
    ({ v with alarms := ops, records := bodies } : DeuWork).drive d = v.drive d := rfl
  unfold enterFaulted
  simp only [handed, before]
  cases restore with
  | true => exact (releasesClutch_drive _ _ d).trans (DeuWork.setRec_drive ..)
  | false =>
    exact (freeSlot_drive _ _ d).trans ((releasesClutch_drive _ _ d).trans (DeuWork.setRec_drive ..))

@[simp] theorem mem_enterFaulted_waiting {k : FaultKind} {restore : Bool} {e : Drive} :
    e ∈ (enterFaulted s d k restore w).deu.waiting ↔ e ∈ w.deu.waiting ∧ e ≠ d := by
  rw [← mem_leave_waiting, ← dropRollDemands_waiting d]
  unfold enterFaulted
  dsimp only
  split <;> split <;> simp [clutch]

@[simp] theorem enterFaulted_holder {k : FaultKind} {restore : Bool} {e : Drive} :
    (enterFaulted s d k restore w).deu.holder = some e ↔ w.deu.holder = some e ∧ (restore = true ∨ e ≠ d) := by
  unfold enterFaulted
  dsimp only
  split <;> split <;> simp_all [clutch]

/-- A drive that turns its pump keeps its clutch through these faults (R87). -/
def keepsClutch (before : DriveState) (k : FaultKind) : Bool :=
  before.turning && (k = .positionLost || k = .slip || k = .noIdle)

@[simp] theorem enterFaulted_do2 (k : FaultKind) (restore : Bool) :
    (enterFaulted s d k restore w).deu.do2 =
      if d = .aux ∧ !keepsClutch (w.drive d).state k then false else w.deu.do2 := by
  unfold enterFaulted keepsClutch
  dsimp only
  split <;> split <;> simp [clutch]

@[simp] theorem enterIdle_drive (c : DriveCause) : (enterIdle d c w).drive d = (w.drive d).idled c :=
  (DeuWork.setRec_drive ..).trans (by rw [leave_drive]; rfl)

@[simp] theorem mem_enterIdle_waiting {c : DriveCause} {e : Drive} :
    e ∈ (enterIdle d c w).deu.waiting ↔ e ∈ w.deu.waiting ∧ e ≠ d := mem_leave_waiting d w

@[simp] theorem enterIdle_holder (c : DriveCause) : (enterIdle d c w).deu.holder = w.deu.holder := rfl
@[simp] theorem enterIdle_do2 (c : DriveCause) : (enterIdle d c w).deu.do2 = w.deu.do2 := rfl

@[simp] theorem enterReleased_drive :
    (enterReleased d w).drive d = { (w.drive d).idled .released with releaseCut := false } := by
  have released : (dropReleaseDemands d (freeSlot d (enterIdle d .released w))).drive d =
      { (w.drive d).idled .released with releaseCut := false } := by simp
  exact released

@[simp] theorem mem_enterReleased_waiting {e : Drive} :
    e ∈ (enterReleased d w).deu.waiting ↔ e ∈ w.deu.waiting ∧ e ≠ d := by simp [enterReleased]

@[simp] theorem enterReleased_holder {e : Drive} :
    (enterReleased d w).deu.holder = some e ↔ w.deu.holder = some e ∧ e ≠ d := by simp [enterReleased]

@[simp] theorem enterReleased_do2 : (enterReleased d w).deu.do2 = w.deu.do2 := by simp [enterReleased]

@[simp] theorem confirmShift_drive : (confirmShift s d w).drive d = (w.drive d).confirmed s d :=
  (freeSlot_drive _ _ d).trans (DeuWork.setRec_drive ..)

@[simp] theorem confirmShift_waiting : (confirmShift s d w).deu.waiting = w.deu.waiting := by simp [confirmShift]

@[simp] theorem confirmShift_holder {e : Drive} :
    (confirmShift s d w).deu.holder = some e ↔ w.deu.holder = some e ∧ e ≠ d := by simp [confirmShift]

@[simp] theorem confirmShift_do2 : (confirmShift s d w).deu.do2 = w.deu.do2 := by simp [confirmShift]

@[simp] theorem enterShifting_drive : (enterShifting s d w).drive d = (w.drive d).shiftStarted s d :=
  (DeuWork.setRec_drive ..).trans (by rw [leave_drive]; rfl)

@[simp] theorem mem_enterShifting_waiting {e : Drive} :
    e ∈ (enterShifting s d w).deu.waiting ↔ e ∈ w.deu.waiting ∧ e ≠ d := mem_leave_waiting d w

@[simp] theorem enterShifting_holder : (enterShifting s d w).deu.holder = some d := rfl
@[simp] theorem enterShifting_do2 : (enterShifting s d w).deu.do2 = w.deu.do2 := rfl

@[simp] theorem enterReleasing_drive : (enterReleasing s d w).drive d = (w.drive d).releaseStarted s d :=
  (dropRollDemands_drive ..).trans (by rw [DeuWork.setRec_drive, leave_drive]; rfl)

@[simp] theorem mem_enterReleasing_waiting {e : Drive} :
    e ∈ (enterReleasing s d w).deu.waiting ↔ e ∈ w.deu.waiting ∧ e ≠ d := by simp [enterReleasing]

@[simp] theorem enterReleasing_holder : (enterReleasing s d w).deu.holder = some d := rfl
@[simp] theorem enterReleasing_do2 : (enterReleasing s d w).deu.do2 = w.deu.do2 := by simp [enterReleasing]

@[simp] theorem beginRelease_drive : (beginRelease s d w).drive d = (w.drive d).awaitsIdle s :=
  (DeuWork.setRec_drive ..).trans (by rw [join_drive, postRelease_drive]; rfl)

@[simp] theorem mem_beginRelease_waiting {e : Drive} :
    e ∈ (beginRelease s d w).deu.waiting ↔ e ∈ w.deu.waiting ∨ e = d := by simp [beginRelease]

@[simp] theorem beginRelease_holder : (beginRelease s d w).deu.holder = w.deu.holder := by simp [beginRelease]
@[simp] theorem beginRelease_do2 : (beginRelease s d w).deu.do2 = w.deu.do2 := by simp [beginRelease]

@[simp] theorem foundIdle_drive : (foundIdle s d w).drive d = (w.drive d).testedForIdle s := by
  unfold foundIdle DriveRec.testedForIdle
  dsimp only
  split
  · exact DeuWork.setRec_drive ..
  · rfl

@[simp] theorem foundIdle_waiting : (foundIdle s d w).deu.waiting = w.deu.waiting := by
  unfold foundIdle
  dsimp only
  split <;> rfl

@[simp] theorem foundIdle_holder : (foundIdle s d w).deu.holder = w.deu.holder := by
  unfold foundIdle
  dsimp only
  split <;> rfl

@[simp] theorem foundIdle_do2 : (foundIdle s d w).deu.do2 = w.deu.do2 := by
  unfold foundIdle
  dsimp only
  split <;> rfl

end

/-! ## What an operation for one drive leaves of the other -/

/-- The drive whose cause it is, of the causes the Drive Engagement Unit posts (R90). -/
def AlarmCause.drive : AlarmCause → Option Drive
  | .driveFault d => some d
  | .rollOverspeed => some .aux
  | .rollWithoutSelect => some .aux
  | _ => none

/-- A drive stands as it did: its record, its place in the waiting list, its hold of the slot, its clutch; and none of
its causes has been withdrawn. -/
structure Spares (e : Drive) (w w' : DeuWork) : Prop where
  drive : w'.drive e = w.drive e
  waits : e ∈ w'.deu.waiting ↔ e ∈ w.deu.waiting
  holds : w'.deu.holder = some e ↔ w.deu.holder = some e
  clutch : e = .aux → w'.deu.do2 = w.deu.do2
  causes : ∀ c, c.drive = some e → .withdraw c ∈ w'.alarms → .withdraw c ∈ w.alarms

/-- An event goes on: what it is to hand over is still there, the answer stands, and no drive waits twice. -/
structure GoesOn (w w' : DeuWork) : Prop where
  distinct : w.deu.waiting.Nodup → w'.deu.waiting.Nodup
  cuts : w.cuts ⊆ w'.cuts
  alarms : w.alarms ⊆ w'.alarms
  records : w.records ⊆ w'.records
  status : w'.status = w.status

/-- An operation for drive `d` in the course of an event. -/
structure ActsOn (d : Drive) (w w' : DeuWork) : Prop where
  spares : ∀ e, e ≠ d → Spares e w w'
  goesOn : GoesOn w w'

theorem Spares.refl (e : Drive) (w : DeuWork) : Spares e w w := ⟨rfl, .rfl, .rfl, fun _ => rfl, fun _ _ => id⟩

theorem Spares.trans {e : Drive} {u v w : DeuWork} (h : Spares e u v) (k : Spares e v w) : Spares e u w where
  drive := k.drive.trans h.drive
  waits := k.waits.trans h.waits
  holds := k.holds.trans h.holds
  clutch he := (k.clutch he).trans (h.clutch he)
  causes c hc hw := h.causes c hc (k.causes c hc hw)

theorem GoesOn.refl (w : DeuWork) : GoesOn w w := ⟨id, List.Subset.refl _, List.Subset.refl _, List.Subset.refl _, rfl⟩

theorem GoesOn.trans {u v w : DeuWork} (h : GoesOn u v) (k : GoesOn v w) : GoesOn u w where
  distinct := k.distinct ∘ h.distinct
  cuts := List.Subset.trans h.cuts k.cuts
  alarms := List.Subset.trans h.alarms k.alarms
  records := List.Subset.trans h.records k.records
  status := k.status.trans h.status

theorem ActsOn.refl (d : Drive) (w : DeuWork) : ActsOn d w w := ⟨fun e _ => .refl e w, .refl w⟩

theorem ActsOn.trans {d : Drive} {u v w : DeuWork} (h : ActsOn d u v) (k : ActsOn d v w) : ActsOn d u w :=
  ⟨fun e he => (h.spares e he).trans (k.spares e he), h.goesOn.trans k.goesOn⟩

/-- The slot is free, or lent to the drive. -/
def DeuWork.SlotFor (w : DeuWork) (d : Drive) : Prop := ∀ e, w.deu.holder = some e → e = d

theorem DeuWork.slotFor_of_none {w : DeuWork} (h : w.deu.holder = none) (d : Drive) : w.SlotFor d :=
  fun e he => by simp [h] at he

theorem DeuWork.slotFor_of_some {w : DeuWork} {d : Drive} (h : w.deu.holder = some d) : w.SlotFor d :=
  fun e he => by simpa [h, eq_comm] using he

section
variable (s : State) (d : Drive) (w : DeuWork)

theorem setRec_actsOn (r : DriveRec) : ActsOn d w (w.setRec d r) :=
  ⟨fun _ he => ⟨w.setRec_drive_other d he r, .rfl, .rfl, fun _ => rfl, fun _ _ => id⟩,
    ⟨id, List.Subset.refl _, List.Subset.refl _, List.Subset.refl _, rfl⟩⟩

/-! Posts, withdrawals of the drive's own causes and records join what is handed over. -/

theorem cuts_actsOn (cuts : List (SetOp Cut)) : ActsOn d w { w with cuts := w.cuts ++ cuts } :=
  ⟨fun _ _ => ⟨rfl, .rfl, .rfl, fun _ => rfl, fun _ _ => id⟩,
    ⟨id, List.subset_append_left _ _, List.Subset.refl _, List.Subset.refl _, rfl⟩⟩

theorem alarms_actsOn {alarms : List (SetOp AlarmCause)} (h : ∀ c, .withdraw c ∈ alarms → c.drive = some d) :
    ActsOn d w { w with alarms := w.alarms ++ alarms } where
  spares _ he := ⟨rfl, .rfl, .rfl, fun _ => rfl, fun c hc hw =>
    (List.mem_append.1 hw).resolve_right fun hw => he (Option.some.inj (hc.symm.trans (h c hw)))⟩
  goesOn := ⟨id, List.Subset.refl _, List.subset_append_left _ _, List.Subset.refl _, rfl⟩

theorem records_actsOn (records : List RecordBody) : ActsOn d w { w with records := w.records ++ records } :=
  ⟨fun _ _ => ⟨rfl, .rfl, .rfl, fun _ => rfl, fun _ _ => id⟩,
    ⟨id, List.Subset.refl _, List.Subset.refl _, List.subset_append_left _ _, rfl⟩⟩

theorem passed_actsOn (passed : List Drive) : ActsOn d w { w with passed := passed } :=
  ⟨fun _ _ => ⟨rfl, .rfl, .rfl, fun _ => rfl, fun _ _ => id⟩,
    ⟨id, List.Subset.refl _, List.Subset.refl _, List.Subset.refl _, rfl⟩⟩

theorem lent_actsOn {w : DeuWork} (h : w.SlotFor d) :
    ActsOn d w { w with deu := { w.deu with holder := some d } } where
  spares e he := ⟨rfl, .rfl, ⟨fun hd => absurd (Option.some.inj hd).symm he, fun hd => absurd (h e hd) he⟩,
    fun _ => rfl, fun _ _ => id⟩
  goesOn := ⟨id, List.Subset.refl _, List.Subset.refl _, List.Subset.refl _, rfl⟩

theorem releasesClutch_actsOn (p : Prop) [Decidable p] :
    ActsOn d w (if d = .aux ∧ p then clutch false w else w) := by
  split
  case isTrue h =>
    exact ⟨fun e he => ⟨rfl, .rfl, .rfl, fun ha => absurd (ha.trans h.1.symm) he, fun _ _ => id⟩,
      ⟨id, List.Subset.refl _, List.Subset.refl _, List.Subset.refl _, rfl⟩⟩
  case isFalse => exact .refl d w

theorem join_actsOn : ActsOn d w (join s d w) where
  spares e he := by
    refine ⟨?_, by simp [he], by simp, fun _ => join_do2 s d w, fun c _ => ?_⟩ <;> unfold join <;> dsimp only <;>
      split
    · exact w.setRec_drive_other d he _
    · exact w.setRec_drive_other d he _
    · exact id
    · exact id
  goesOn := by
    unfold join
    dsimp only
    split
    case isTrue => exact (setRec_actsOn d w _).goesOn
    case isFalse h =>
      have new : d ∉ w.deu.waiting := by simpa using h
      exact ⟨fun hn => List.nodup_append.2 ⟨hn, by simp, by simpa using fun x hx (e : x = d) => new (e ▸ hx)⟩,
        List.Subset.refl _, List.Subset.refl _, List.Subset.refl _, rfl⟩

theorem leave_actsOn : ActsOn d w (leave d w) where
  spares e he := ⟨w.setRec_drive_other d he _, by simp [he], .rfl, fun _ => rfl, fun _ _ => id⟩
  goesOn := ⟨List.Nodup.filter _, List.Subset.refl _, List.Subset.refl _, List.Subset.refl _, rfl⟩

theorem freeSlot_actsOn : ActsOn d w (freeSlot d w) where
  spares e he := ⟨freeSlot_drive d w e, by simp, by simp [he], fun _ => freeSlot_do2 d w, fun c _ => by
    unfold freeSlot
    split <;> exact id⟩
  goesOn := by
    unfold freeSlot
    split
    · exact ⟨id, List.Subset.refl _, List.Subset.refl _, List.Subset.refl _, rfl⟩
    · exact .refl w

theorem dropRollDemands_actsOn : ActsOn d w (dropRollDemands d w) := by
  have overspeed : ActsOn d w (if d = .aux ∧ (w.drive d).overspeedPosted then
      { w with
        cuts := w.cuts ++ [.withdraw .rollOverspeed], alarms := w.alarms ++ [.withdraw .rollOverspeed] } else w) := by
    split
    case isTrue h => exact (cuts_actsOn d w _).trans (alarms_actsOn d _ (by simp [AlarmCause.drive, h.1]))
    case isFalse => exact .refl d w
  have select (v : DeuWork) : ActsOn d v (if d = .aux ∧ (w.drive d).selectPosted then
      { v with alarms := v.alarms ++ [.withdraw .rollWithoutSelect] } else v) := by
    split
    case isTrue h => exact alarms_actsOn d v (by simp [AlarmCause.drive, h.1])
    case isFalse => exact .refl d v
  exact (overspeed.trans (select _)).trans (setRec_actsOn d _ _)

theorem postRelease_actsOn : ActsOn d w (postRelease d w) := by
  unfold postRelease
  dsimp only
  split
  · exact .refl d w
  · exact (setRec_actsOn d w _).trans (cuts_actsOn d _ _)

theorem dropReleaseDemands_actsOn : ActsOn d w (dropReleaseDemands d w) := by
  have cuts : ActsOn d w (if (w.drive d).releaseCut then
      { w with cuts := w.cuts ++ [.withdraw (.driveRelease d)] } else w) := by
    split
    · exact cuts_actsOn d w _
    · exact .refl d w
  exact (cuts.trans (setRec_actsOn d _ _)).trans (alarms_actsOn d _ (by simp [AlarmCause.drive]))

theorem enterFaulted_actsOn (k : FaultKind) (restore : Bool) : ActsOn d w (enterFaulted s d k restore w) := by
  have entered (r : DriveRec) (p : Prop) [Decidable p] : ActsOn d w
      (if d = .aux ∧ p then clutch false ((dropRollDemands d (leave d w)).setRec d r)
        else (dropRollDemands d (leave d w)).setRec d r) :=
    ((leave_actsOn d w).trans (dropRollDemands_actsOn d _)).trans
      ((setRec_actsOn d _ r).trans (releasesClutch_actsOn d _ p))
  have handed (v : DeuWork) (r : RecordBody) : ActsOn d v
      { v with alarms := v.alarms ++ [.post (.driveFault d)], records := v.records ++ [r] } :=
    (alarms_actsOn d v (by simp)).trans (records_actsOn d _ _)
  unfold enterFaulted
  dsimp only
  cases restore with
  | true => exact (entered _ _).trans (handed _ _)
  | false => exact ((entered _ _).trans (freeSlot_actsOn d _)).trans (handed _ _)

theorem enterIdle_actsOn (c : DriveCause) : ActsOn d w (enterIdle d c w) :=
  (leave_actsOn d w).trans (setRec_actsOn d _ _)

theorem enterReleased_actsOn : ActsOn d w (enterReleased d w) :=
  (((enterIdle_actsOn d w _).trans (freeSlot_actsOn d _)).trans (dropReleaseDemands_actsOn d _)).trans
    (records_actsOn d _ _)

theorem confirmShift_actsOn : ActsOn d w (confirmShift s d w) :=
  ((setRec_actsOn d w _).trans (freeSlot_actsOn d _)).trans (records_actsOn d _ _)

theorem enterShifting_actsOn {w : DeuWork} (h : w.SlotFor d) : ActsOn d w (enterShifting s d w) := by
  have slot (r : DriveRec) : ((leave d w).setRec d r).SlotFor d := h
  exact ((leave_actsOn d w).trans (setRec_actsOn d _ _)).trans ((lent_actsOn d (slot _)).trans
    (passed_actsOn d _ _))

theorem enterReleasing_actsOn {w : DeuWork} (h : w.SlotFor d) : ActsOn d w (enterReleasing s d w) := by
  have slot (r : DriveRec) : (dropRollDemands d ((leave d w).setRec d r)).SlotFor d := fun e he =>
    h e (by simpa using he)
  exact (((leave_actsOn d w).trans (setRec_actsOn d _ _)).trans (dropRollDemands_actsOn d _)).trans
    (lent_actsOn d (slot _))

theorem beginRelease_actsOn : ActsOn d w (beginRelease s d w) :=
  ((postRelease_actsOn d w).trans (join_actsOn s d _)).trans (setRec_actsOn d _ _)

theorem foundIdle_actsOn : ActsOn d w (foundIdle s d w) := by
  unfold foundIdle
  dsimp only
  split
  · exact setRec_actsOn d w _
  · exact .refl d w

end

end Sys2Proof.Machine

end


section
/-! PROOFS. The shift slot lent: each operation of the Drive Engagement Unit keeps the slot with the drive under way and
the waiting list with the drives that wait. -/

namespace Sys2Proof.Machine

open Sys2Proof.Safety

/-! ## The law of one drive -/

/-- What `SlotLent` says of a drive's record, given whether it holds the slot and whether it waits (R67, R68, R75). -/
structure DriveRec.Lent (r : DriveRec) (holds waits : Prop) : Prop where
  slot : holdsSlot r = true → holds ∧ r.pendingRelease = .none
  waiting : waits ↔ r.state = .preparing ∨ r.pendingRelease ≠ .none
  pending : r.pendingRelease ≠ .none → r.state.turning = true ∨ r.state = .faulted
  restore : r.seqPurpose = some .restore → r.state = .faulted ∧ r.phase = .restore

/-- The slot is lent as it should be in the course of an event. -/
structure DeuWork.Lent (w : DeuWork) : Prop where
  distinct : w.deu.waiting.Nodup
  drive : ∀ d, (w.drive d).Lent (w.deu.holder = some d) (d ∈ w.deu.waiting)

/-- A DEU event begins with the unit as it stands. -/
def State.deuWork (s : State) : DeuWork := { deu := s.deu }

theorem slotLent_iff (s : State) : SlotLent s ↔ s.deuWork.Lent ∧
      (s.deu.adopted = false → ∀ d, (s.deu.drives.get d).state = .disengaged) where
  mp h := by
    obtain ⟨distinct, drive⟩ := h
    refine ⟨⟨distinct, fun d => ?_⟩, fun ha d => ?_⟩
    · obtain ⟨slot, waiting, pending, -, restore⟩ := drive d
      exact ⟨slot, waiting, pending, restore⟩
    · obtain ⟨-, -, -, unadopted, -⟩ := drive d
      exact unadopted ha
  mpr h := by
    obtain ⟨⟨distinct, drive⟩, unadopted⟩ := h
    exact ⟨distinct, fun d => ⟨(drive d).slot, (drive d).waiting, (drive d).pending, fun ha => unadopted ha d,
      (drive d).restore⟩⟩

section
variable {r : DriveRec} {holds waits : Prop}

/-- A drive that neither is under way nor waits. -/
theorem DriveRec.Lent.idle (slot : holdsSlot r = false) (state : r.state ≠ .preparing)
    (pending : r.pendingRelease = .none) (purpose : r.seqPurpose ≠ some .restore) (hw : ¬ waits) :
    r.Lent holds waits :=
  ⟨fun h => by simp [slot] at h, by simp [hw, state, pending], fun h => absurd pending h, fun h => absurd h purpose⟩

variable (h : r.Lent holds waits)
include h

/-- The law reads four fields. -/
theorem DriveRec.Lent.of_fields {r' : DriveRec} (state : r'.state = r.state) (phase : r'.phase = r.phase)
    (pending : r'.pendingRelease = r.pendingRelease) (purpose : r'.seqPurpose = r.seqPurpose) :
    r'.Lent holds waits := by
  obtain ⟨hslot, hwaiting, hpending, hrestore⟩ := h
  exact ⟨by simpa only [holdsSlot, state, phase, pending] using hslot, by rwa [state, pending],
    by rwa [state, pending], by rwa [state, phase, purpose]⟩

theorem DriveRec.Lent.pending_none (hturning : r.state.turning = false) (hfaulted : r.state ≠ .faulted) :
    r.pendingRelease = .none := by
  by_contra hp
  obtain ht | hf := h.pending hp
  · simp [hturning] at ht
  · exact hfaulted hf

theorem DriveRec.Lent.not_restoring (hf : r.state ≠ .faulted) : r.seqPurpose ≠ some .restore :=
  fun hr => hf (h.restore hr).1

theorem DriveRec.Lent.not_waiting (state : r.state ≠ .preparing) (pending : r.pendingRelease = .none) : ¬ waits := by
  simp [h.waiting, state, pending]

end

/-! ## Each operation keeps it -/

theorem turningState_turning (s : State) (d : Drive) : (turningState s d).turning = true := by
  cases d with
  | main => rfl
  | aux =>
    unfold turningState
    dsimp only
    split <;> rfl

theorem holdsSlot_of_turning {r : DriveRec} (ht : r.state.turning = true) : holdsSlot r = false := by
  cases hs : r.state <;> simp [holdsSlot, hs, DriveState.turning] at ht ⊢

theorem ActsOn.lent {d : Drive} {w w' : DeuWork} (h : ActsOn d w w') (hw : w.Lent)
    (own : (w'.drive d).Lent (w'.deu.holder = some d) (d ∈ w'.deu.waiting)) : w'.Lent where
  distinct := h.goesOn.distinct hw.distinct
  drive e := by
    by_cases he : e = d
    · exact he ▸ own
    · obtain ⟨drive, waits, holds, -, -⟩ := h.spares e he
      rw [drive, propext waits, propext holds]
      exact hw.drive e

section
variable {w : DeuWork} (h : w.Lent) (s : State) (d : Drive)
include h

theorem setRec_lent {r : DriveRec} (hr : r.Lent (w.deu.holder = some d) (d ∈ w.deu.waiting)) :
    (w.setRec d r).Lent :=
  (setRec_actsOn d w r).lent h (by simpa using hr)

theorem enterFaulted_lent (k : FaultKind) {restore : Bool} (hr : restore = true → w.deu.holder = some d) :
    (enterFaulted s d k restore w).Lent := by
  refine (enterFaulted_actsOn s d w k restore).lent h ?_
  rw [enterFaulted_drive]
  cases restore with
  | false => exact .idle rfl nofun rfl nofun (by simp)
  | true => exact ⟨fun _ => ⟨by simp [hr], rfl⟩, by simp [DriveRec.faulted, startSeq], nofun, fun _ => ⟨rfl, rfl⟩⟩

theorem enterIdle_lent (c : DriveCause) (hp : (w.drive d).pendingRelease = .none) : (enterIdle d c w).Lent := by
  refine (enterIdle_actsOn d w c).lent h ?_
  rw [enterIdle_drive]
  exact .idle rfl nofun hp nofun (by simp)

theorem enterReleased_lent (hp : (w.drive d).pendingRelease = .none) : (enterReleased d w).Lent := by
  refine (enterReleased_actsOn d w).lent h ?_
  rw [enterReleased_drive]
  exact .idle rfl nofun hp nofun (by simp)

theorem confirmShift_lent (hs : (w.drive d).state = .shifting) : (confirmShift s d w).Lent := by
  have pending : (w.drive d).pendingRelease = .none := ((h.drive d).slot (by simp [holdsSlot, hs])).2
  have turning : ((w.drive d).confirmed s d).state.turning = true := turningState_turning s d
  refine (confirmShift_actsOn s d w).lent h ?_
  rw [confirmShift_drive, confirmShift_waiting]
  exact .idle (holdsSlot_of_turning turning) (fun hp => by simp [hp, DriveState.turning] at turning) pending nofun
    ((h.drive d).not_waiting (by simp [hs]) pending)

theorem enterShifting_lent (slot : w.SlotFor d) (hp : (w.drive d).pendingRelease = .none) :
    (enterShifting s d w).Lent := by
  refine (enterShifting_actsOn s d slot).lent h ?_
  rw [enterShifting_drive]
  exact ⟨fun _ => ⟨rfl, hp⟩, by simp [DriveRec.shiftStarted, startSeq, hp], fun hp' => absurd hp hp', nofun⟩

theorem enterReleasing_lent (slot : w.SlotFor d) : (enterReleasing s d w).Lent := by
  refine (enterReleasing_actsOn s d slot).lent h ?_
  rw [enterReleasing_drive]
  exact ⟨fun _ => ⟨rfl, rfl⟩, by simp [DriveRec.releaseStarted, DriveRec.rollDropped, startSeq], nofun, nofun⟩

theorem beginRelease_lent (hs : (w.drive d).state.turning = true ∨ (w.drive d).state = .faulted)
    (slot : holdsSlot (w.drive d) = false) : (beginRelease s d w).Lent := by
  refine (beginRelease_actsOn s d w).lent h ?_
  rw [beginRelease_drive]
  exact ⟨fun hslot => absurd (slot.symm.trans hslot) nofun, by simp [DriveRec.awaitsIdle], fun _ => hs, nofun⟩

theorem foundIdle_lent : (foundIdle s d w).Lent := by
  have lent := h.drive d
  refine (foundIdle_actsOn s d w).lent h ?_
  rw [foundIdle_drive, foundIdle_holder, foundIdle_waiting]
  unfold DriveRec.testedForIdle
  split
  case isFalse => exact lent
  case isTrue hp =>
    have pending : (w.drive d).pendingRelease ≠ .none := by simp [hp.1]
    exact ⟨fun slot => absurd (lent.slot slot).2 pending,
      ⟨fun _ => .inr nofun, fun _ => lent.waiting.2 (.inr pending)⟩, fun _ => lent.pending pending, nofun⟩

end

/-! ## The offer of the slot (R67, R71) -/

/-- What comes of the offer of the slot to a member, with the members behind it. -/
inductive Offered (s : State) (d : Drive) (rest : List Drive) (w : DeuWork) : DeuWork → Prop where
  | closed : Offered s d rest w w
  | passedBy : Offered s d rest w (offer s rest w)
  | lockedOut (state : (w.drive d).state = .preparing) (guard : s.effective (startGuard d) = true) :
    Offered s d rest w (offer s rest (enterIdle d .lockedOut w))
  | shifts (slot : w.deu.holder = none) (supply : s.supplyNormal = true) (state : (w.drive d).state = .preparing)
      (allowed : permissives s d = true) (guard : s.effective (startGuard d) = false) :
    Offered s d rest w (enterShifting s d w)
  | releases (slot : w.deu.holder = none) (supply : s.supplyNormal = true) (state : (w.drive d).state ≠ .preparing)
      (pending : (w.drive d).pendingRelease = .slotWait) : Offered s d rest w (enterReleasing s d w)

theorem offer_cons (s : State) (d : Drive) (rest : List Drive) (w : DeuWork) :
    Offered s d rest w (offer s (d :: rest) w) := by
  rw [offer]
  split
  case isTrue => exact .closed
  case isFalse hopen =>
    obtain ⟨slot, supply⟩ : w.deu.holder = none ∧ s.supplyNormal = true := by simpa using hopen
    split
    case isTrue => exact .passedBy
    case isFalse hready =>
      by_cases state : (w.drive d).state = .preparing
      · have allowed : permissives s d = true := by simp_all [ready]
        rw [if_pos state]
        split
        case isTrue guard => exact .lockedOut state guard
        case isFalse guard => exact .shifts slot supply state allowed (by simpa using guard)
      · rw [if_neg state]
        exact .releases slot supply state (by simpa [ready, state] using hready)

section
variable (s : State)

theorem offer_lent (ds : List Drive) {w : DeuWork} (h : w.Lent) : (offer s ds w).Lent := by
  induction ds generalizing w with
  | nil => exact h
  | cons d rest ih =>
    have pending (state : (w.drive d).state = .preparing) : (w.drive d).pendingRelease = .none :=
      (h.drive d).pending_none (by rw [state]; rfl) (by simp [state])
    have offered := offer_cons s d rest w
    generalize offer s (d :: rest) w = w' at offered ⊢
    cases offered with
    | closed => exact h
    | passedBy => exact ih h
    | lockedOut state => exact ih (enterIdle_lent h d _ (pending state))
    | shifts slot _ state => exact enterShifting_lent h s d (w.slotFor_of_none slot d) (pending state)
    | releases slot => exact enterReleasing_lent h s d (w.slotFor_of_none slot d)

theorem offer_goesOn (ds : List Drive) (w : DeuWork) : GoesOn w (offer s ds w) := by
  induction ds generalizing w with
  | nil => exact .refl w
  | cons d rest ih =>
    have offered := offer_cons s d rest w
    generalize offer s (d :: rest) w = w' at offered ⊢
    cases offered with
    | closed => exact .refl w
    | passedBy => exact ih w
    | lockedOut => exact (enterIdle_actsOn d w _).goesOn.trans (ih _)
    | shifts slot => exact (enterShifting_actsOn s d (w.slotFor_of_none slot d)).goesOn
    | releases slot => exact (enterReleasing_actsOn s d (w.slotFor_of_none slot d)).goesOn

/-- A drive that the slot is not offered to stands as it did. -/
theorem offer_spares {e : Drive} {ds : List Drive} (he : e ∉ ds) (w : DeuWork) : Spares e w (offer s ds w) := by
  induction ds generalizing w with
  | nil => exact .refl e w
  | cons d rest ih =>
    obtain ⟨hne, he⟩ : e ≠ d ∧ e ∉ rest := by simpa using he
    have offered := offer_cons s d rest w
    generalize offer s (d :: rest) w = w' at offered ⊢
    cases offered with
    | closed => exact .refl e w
    | passedBy => exact ih he w
    | lockedOut => exact ((enterIdle_actsOn d w _).spares e hne).trans (ih he _)
    | shifts slot => exact (enterShifting_actsOn s d (w.slotFor_of_none slot d)).spares e hne
    | releases slot => exact (enterReleasing_actsOn s d (w.slotFor_of_none slot d)).spares e hne

/-- A drive whose start-guard does not stand in its way is passed by, or gets the slot after what the offer made of the
members before it. -/
theorem offer_cases {e : Drive} {w : DeuWork} (ds : List Drive)
    (guard : (w.drive e).state = .preparing → s.effective (startGuard e) = false) :
    Spares e w (offer s ds w) ∨ ∃ v, Spares e w v ∧ GoesOn w v ∧ v.deu.holder = none ∧
      ((w.drive e).state = .preparing ∧ offer s ds w = enterShifting s e v ∨
        (w.drive e).state ≠ .preparing ∧ (w.drive e).pendingRelease = .slotWait ∧
          offer s ds w = enterReleasing s e v) := by
  induction ds generalizing w with
  | nil => exact .inl (.refl e w)
  | cons d rest ih =>
    have offered := offer_cons s d rest w
    generalize offer s (d :: rest) w = w' at offered ⊢
    by_cases hne : e = d
    · subst hne
      cases offered with
      | closed => exact .inl (.refl e w)
      | passedBy => exact ih guard
      | lockedOut state effective => exact absurd (effective.symm.trans (guard state)) nofun
      | shifts slot _ state => exact .inr ⟨w, .refl e w, .refl w, slot, .inl ⟨state, rfl⟩⟩
      | releases slot _ state pending => exact .inr ⟨w, .refl e w, .refl w, slot, .inr ⟨state, pending, rfl⟩⟩
    · cases offered with
      | closed => exact .inl (.refl e w)
      | passedBy => exact ih guard
      | shifts slot => exact .inl ((enterShifting_actsOn s d (w.slotFor_of_none slot d)).spares e hne)
      | releases slot => exact .inl ((enterReleasing_actsOn s d (w.slotFor_of_none slot d)).spares e hne)
      | lockedOut =>
        have idled := enterIdle_actsOn d w .lockedOut
        have spared := idled.spares e hne
        rw [← spared.drive] at guard ⊢
        obtain h | ⟨v, h, goesOn, h'⟩ := ih guard
        · exact .inl (spared.trans h)
        · exact .inr ⟨v, spared.trans h, idled.goesOn.trans goesOn, h'⟩

end

end Sys2Proof.Machine

end


section
/-! PROOFS. A DEU event: adoption before its body, the idle test and the offer of the slot behind it. -/

namespace Sys2Proof.Machine

open Sys2Proof.Safety

/-! ## Adoption (R89) -/

section
variable {s : State}

theorem adopt_of_adopted (h : s.deu.adopted = true) (w : DeuWork) : adopt s w = w := by
  simp [adopt, adoptionDue, h]

/-- Both drives have adopted their states. -/
theorem adopt_of_due (h : adoptionDue s = true) (w : DeuWork) :
    adopt s w = { adoptAux s (adoptMain s w) with deu := { (adoptAux s (adoptMain s w)).deu with adopted := true } } :=
  if_pos h

theorem adopt_of_not_due (h : adoptionDue s = false) (w : DeuWork) : adopt s w = w := by simp [adopt, h]

theorem adoptionDue_iff : adoptionDue s = true ↔
    s.deu.adopted = false ∧ s.pfu.conf ≠ .loading ∧ s.isu.scanned = true := by
  simp [adoptionDue, and_assoc]

variable (s) (w : DeuWork)

theorem adoptMain_actsOn : ActsOn .main w (adoptMain s w) := by
  unfold adoptMain
  split
  · exact setRec_actsOn .main w _
  · exact setRec_actsOn .main w _
  · exact enterFaulted_actsOn s .main w _ _

theorem adoptAux_actsOn : ActsOn .aux w (adoptAux s w) := by
  unfold adoptAux
  split
  · exact enterFaulted_actsOn s .aux w _ _
  · exact setRec_actsOn .aux w _

variable {w}

theorem adoptMain_lent (h : w.Lent) (hw : (w.drive .main).state = .disengaged) : (adoptMain s w).Lent := by
  have lent := h.drive .main
  have pending := lent.pending_none (by rw [hw]; rfl) (by simp [hw])
  have purpose := lent.not_restoring (by simp [hw])
  have waiting := lent.not_waiting (by simp [hw]) pending
  unfold adoptMain
  split
  · exact setRec_lent h .main (.idle rfl nofun pending purpose waiting)
  · exact setRec_lent h .main (.idle rfl nofun pending purpose waiting)
  · exact enterFaulted_lent h s .main _ nofun

theorem adoptAux_lent (h : w.Lent) (hw : (w.drive .aux).state = .disengaged) : (adoptAux s w).Lent := by
  have lent := h.drive .aux
  have pending := lent.pending_none (by rw [hw]; rfl) (by simp [hw])
  unfold adoptAux
  split
  · exact enterFaulted_lent h s .aux _ nofun
  · exact setRec_lent h .aux
      (.idle rfl nofun pending (lent.not_restoring (by simp [hw])) (lent.not_waiting (by simp [hw]) pending))

theorem adopt_lent {s : State} (h : SlotLent s) : (adopt s s.deuWork).Lent := by
  obtain ⟨lent, unadopted⟩ := (slotLent_iff s).1 h
  cases hdue : adoptionDue s with
  | false => rwa [adopt_of_not_due hdue]
  | true =>
    have disengaged := unadopted (adoptionDue_iff.1 hdue).1
    have main := adoptMain_lent s lent (disengaged .main)
    have aux : ((adoptMain s s.deuWork).drive .aux).state = .disengaged := by
      rw [((adoptMain_actsOn s s.deuWork).spares .aux nofun).drive]
      exact disengaged .aux
    have both := adoptAux_lent s main aux
    rw [adopt_of_due hdue]
    exact ⟨both.distinct, both.drive⟩

/-- Once a drive is out of DISENGAGED, both have adopted their states. -/
theorem slotLent_adopted {s : State} (h : SlotLent s) {d : Drive} (hd : (s.deu.drives.get d).state ≠ .disengaged) :
    s.deu.adopted = true := by
  obtain ⟨-, unadopted⟩ := (slotLent_iff s).1 h
  by_contra ha
  exact hd (unadopted (by simpa using ha) d)

end

/-! ## The idle test and the offer at the end of an event (R67, R77) -/

/-- The idle test of both drives. -/
def idleTested (s : State) (w : DeuWork) : DeuWork := foundIdle s .aux (foundIdle s .main w)

/-- The idle test, and then the offer of the slot to those that wait. -/
def slotOffered (s : State) (w : DeuWork) : DeuWork := offer s (idleTested s w).deu.waiting (idleTested s w)

theorem deuRun_eq (s : State) (body : DeuWork → DeuWork) : deuRun s body =
    { slotOffered s (body (adopt s s.deuWork)) with
      deu := deuOutputs (slotOffered s (body (adopt s s.deuWork))).deu } := rfl

theorem State.deuTakes_deu (s : State) (body : DeuWork → DeuWork) :
    (s.deuTakes body).deu = deuOutputs (slotOffered s (body (adopt s s.deuWork))).deu := rfl

theorem DriveRec.testedForIdle_of_not_awaiting {r : DriveRec} (h : r.pendingRelease ≠ .idleWait) (s : State) :
    r.testedForIdle s = r := if_neg fun hp => h hp.1

section
variable (s : State) (w : DeuWork)

@[simp] theorem idleTested_drive (d : Drive) : (idleTested s w).drive d = (w.drive d).testedForIdle s := by
  cases d with
  | main =>
    exact ((foundIdle_actsOn s .aux (foundIdle s .main w)).spares .main nofun).drive.trans (foundIdle_drive ..)
  | aux =>
    exact (foundIdle_drive ..).trans
      (congrArg (·.testedForIdle s) ((foundIdle_actsOn s .main w).spares .aux nofun).drive)

@[simp] theorem idleTested_waiting : (idleTested s w).deu.waiting = w.deu.waiting := by simp [idleTested]

@[simp] theorem idleTested_holder : (idleTested s w).deu.holder = w.deu.holder := by simp [idleTested]

@[simp] theorem idleTested_do2 : (idleTested s w).deu.do2 = w.deu.do2 := by simp [idleTested]

theorem foundIdle_alarms (d : Drive) : (foundIdle s d w).alarms = w.alarms := by
  unfold foundIdle
  dsimp only
  split <;> rfl

@[simp] theorem idleTested_alarms : (idleTested s w).alarms = w.alarms := by simp [idleTested, foundIdle_alarms]

theorem idleTested_goesOn : GoesOn w (idleTested s w) :=
  (foundIdle_actsOn s .main w).goesOn.trans (foundIdle_actsOn s .aux _).goesOn

theorem slotOffered_goesOn : GoesOn w (slotOffered s w) := (idleTested_goesOn s w).trans (offer_goesOn s _ _)

variable {w}

theorem slotOffered_lent (h : w.Lent) : (slotOffered s w).Lent :=
  offer_lent s _ (foundIdle_lent (foundIdle_lent h s .main) s .aux)

variable {d : Drive}

theorem idleTested_spares (hp : (w.drive d).pendingRelease ≠ .idleWait) : Spares d w (idleTested s w) :=
  ⟨by rw [idleTested_drive, DriveRec.testedForIdle_of_not_awaiting hp], by simp, by simp, fun _ => by simp,
    fun _ _ => by simp⟩

/-- A drive that does not wait stands at the end of the event as the body left it. -/
theorem slotOffered_spares (h : w.Lent) (hd : d ∉ w.deu.waiting) : Spares d w (slotOffered s w) := by
  have pending : (w.drive d).pendingRelease = .none := by
    by_contra hp
    exact hd ((h.drive d).waiting.2 (.inr hp))
  refine (idleTested_spares s (by simp [pending])).trans (offer_spares s (by simpa using hd) _)

/-- A PREPARING drive whose start-guard does not stand in its way waits on, or enters SHIFTING (R67, R71). -/
theorem slotOffered_preparing (h : w.Lent) (state : (w.drive d).state = .preparing)
    (guard : s.effective (startGuard d) = false) :
    Spares d w (slotOffered s w) ∨ ∃ v, Spares d w v ∧ slotOffered s w = enterShifting s d v := by
  have pending := (h.drive d).pending_none (by rw [state]; rfl) (by simp [state])
  have tested := idleTested_spares s (w := w) (d := d) (by simp [pending])
  obtain hs | ⟨v, hs, -, -, ⟨-, shifts⟩ | ⟨hne, -⟩⟩ :=
    offer_cases s (e := d) (w := idleTested s w) (idleTested s w).deu.waiting fun _ => guard
  · exact .inl (tested.trans hs)
  · exact .inr ⟨v, tested.trans hs, shifts⟩
  · exact absurd (tested.drive ▸ state) hne

/-- A drive with a release pending waits on, tested for idle, or enters RELEASING from SLOT_WAIT (R67, R77). -/
theorem slotOffered_pending (state : (w.drive d).state ≠ .preparing) :
    Spares d (idleTested s w) (slotOffered s w) ∨
    ∃ v, Spares d (idleTested s w) v ∧ GoesOn w v ∧ v.deu.holder = none ∧
      ((w.drive d).testedForIdle s).pendingRelease = .slotWait ∧ slotOffered s w = enterReleasing s d v := by
  have state' : ((idleTested s w).drive d).state ≠ .preparing := by
    rw [idleTested_drive]
    unfold DriveRec.testedForIdle
    split <;> exact state
  obtain hs | ⟨v, hs, goesOn, slot, ⟨hp, -⟩ | ⟨-, pending, releases⟩⟩ :=
    offer_cases s (e := d) (idleTested s w).deu.waiting fun hp => absurd hp state'
  · exact .inl hs
  · exact absurd hp state'
  · exact .inr ⟨v, hs, (idleTested_goesOn s w).trans goesOn, slot, by simpa using pending, releases⟩

end

/-! ## The grant of the slot (R67, R71, R88, R122) -/

/-- What a grant of the slot to a drive needs (R67, R71, R88, R122). -/
def Grants (s : State) (d : Drive) (w w' : DeuWork) : Prop :=
  ((w'.drive d).state = .shifting → (w.drive d).state ≠ .shifting →
    (w.drive d).state = .preparing ∧ w.deu.holder = none ∧ w'.deu.holder = some d ∧ s.supplyNormal = true ∧
      s.effective (startGuard d) = false ∧ permissives s d = true) ∧
  ((w'.drive d).state = .releasing → (w.drive d).state ≠ .releasing →
    (w.drive d).pendingRelease = .slotWait ∧ w.deu.holder = none ∧ w'.deu.holder = some d ∧ s.supplyNormal = true)

theorem Grants.of_eq {s : State} {d : Drive} {w w' : DeuWork} (h : (w'.drive d).state = (w.drive d).state) :
    Grants s d w w' := ⟨fun hs hn => absurd (h ▸ hs) hn, fun hs hn => absurd (h ▸ hs) hn⟩

/-- The offer grants the slot as it should, whatever the list of members. -/
theorem offer_grants (s : State) (e : Drive) (ds : List Drive) (w : DeuWork) : Grants s e w (offer s ds w) := by
  induction ds generalizing w with
  | nil => exact .of_eq rfl
  | cons d rest ih =>
    have offered := offer_cons s d rest w
    generalize offer s (d :: rest) w = w' at offered ⊢
    by_cases hne : e = d
    · subst hne
      cases offered with
      | closed => exact .of_eq rfl
      | passedBy => exact ih w
      | lockedOut =>
        obtain ⟨shifts, releases⟩ := ih (enterIdle e .lockedOut w)
        rw [enterIdle_drive] at shifts releases
        exact ⟨fun hs _ => absurd (shifts hs nofun).1 nofun, fun hr _ => releases hr nofun⟩
      | shifts slot supply state allowed guard =>
        refine ⟨fun _ _ => ⟨state, slot, rfl, supply, guard, allowed⟩, fun hr _ => ?_⟩
        rw [enterShifting_drive] at hr
        cases hr
      | releases slot supply _ pending =>
        refine ⟨fun hs _ => ?_, fun _ _ => ⟨pending, slot, rfl, supply⟩⟩
        rw [enterReleasing_drive] at hs
        cases hs
    · cases offered with
      | closed => exact .of_eq rfl
      | passedBy => exact ih w
      | lockedOut =>
        have idled := ih (enterIdle d .lockedOut w)
        rwa [Grants, ((enterIdle_actsOn d w _).spares e hne).drive] at idled
      | shifts slot =>
        exact .of_eq (congrArg _ ((enterShifting_actsOn s d (w.slotFor_of_none slot d)).spares e hne).drive)
      | releases slot =>
        exact .of_eq (congrArg _ ((enterReleasing_actsOn s d (w.slotFor_of_none slot d)).spares e hne).drive)

theorem permissives_iff (s : State) (d : Drive) : permissives s d = true ↔
    (d = .main → s.level .parkBrake = true) ∧ s.level .transNeutral = true ∧ s.isu.pub.roadStill = true ∧
      s.engineAtMost s.driveParams.shiftMaxRpm = true := by
  cases d <;> simp [permissives, State.atIdle, and_assoc]

/-- Settles O36, by induction on the members that the slot is offered to. -/
theorem slotIsGrantedOnlyToAReadyDrive : Obligations.SlotIsGrantedOnlyToAReadyDrive := by
  intro s w d
  obtain ⟨shifts, releases⟩ := offer_grants s d w.deu.waiting w
  have normal : s.supplyNormal = true → s.pfu.supply = .normal := by simp [State.supplyNormal]
  refine ⟨fun hs hn => ?_, fun hr hn => ?_⟩
  · obtain ⟨state, slot, holder, supply, guard, allowed⟩ := shifts hs hn
    exact ⟨state, slot, holder, normal supply, guard, (permissives_iff s d).1 allowed⟩
  · obtain ⟨pending, slot, holder, supply⟩ := releases hr hn
    exact ⟨pending, slot, holder, normal supply⟩

end Sys2Proof.Machine

end


section
/-! PROOFS. The bodies of the DEU's events: each keeps the slot lent and leaves the drives unadopted alone. -/

namespace Sys2Proof.Machine

open Sys2Proof.Safety

/-! ## What a publication makes of a drive -/

section
variable (s : State) (w : DeuWork)

theorem motionMonitor_actsOn : ActsOn .main w (motionMonitor s w) := by
  unfold motionMonitor
  dsimp only
  split
  · exact enterFaulted_actsOn s .main w _ _
  split
  · exact setRec_actsOn .main w _
  · exact .refl .main w

theorem moveRolling_actsOn : ActsOn .aux w (moveRolling s w) := by
  unfold moveRolling
  dsimp only
  split
  · exact setRec_actsOn .aux w _
  · exact (dropRollDemands_actsOn .aux w).trans (setRec_actsOn .aux _ _)
  · exact .refl .aux w

theorem overspeedMonitor_actsOn : ActsOn .aux w (overspeedMonitor s w) := by
  unfold overspeedMonitor
  dsimp only
  split
  · exact .refl .aux w
  split
  · split
    · exact ((setRec_actsOn .aux w _).trans (cuts_actsOn .aux _ _)).trans
        (alarms_actsOn .aux _ (by simp [AlarmCause.drive]))
    · exact .refl .aux w
  · split <;> exact setRec_actsOn .aux w _

theorem selectMonitor_actsOn : ActsOn .aux w (selectMonitor s w) := by
  unfold selectMonitor
  dsimp only
  split
  · split
    · exact (setRec_actsOn .aux w _).trans (alarms_actsOn .aux _ (by simp [AlarmCause.drive]))
    · exact .refl .aux w
  split
  · exact .refl .aux w
  · exact (setRec_actsOn .aux w _).trans (alarms_actsOn .aux _ (by simp))

theorem monitors_actsOn (d : Drive) : ActsOn d w (monitors s d w) := by
  cases d with
  | main =>
    unfold monitors
    dsimp only
    split
    · exact (motionMonitor_actsOn s w).trans (setRec_actsOn .main _ _)
    · exact motionMonitor_actsOn s w
  | aux =>
    unfold monitors
    dsimp only
    split
    · exact (((moveRolling_actsOn s w).trans (overspeedMonitor_actsOn s _)).trans (selectMonitor_actsOn s _)).trans
        (setRec_actsOn .aux _ _)
    · exact (moveRolling_actsOn s w).trans (setRec_actsOn .aux _ _)

theorem endRestore_actsOn : ActsOn .main w (endRestore w) :=
  (setRec_actsOn .main w _).trans (freeSlot_actsOn .main _)

end

/-! A drive's part in a publication, by its state. -/

section
variable {s : State} {d : Drive} {w : DeuWork}

theorem driveInputs_shifting (h : (w.drive d).state = .shifting) :
    driveInputs s d w = if s.pumpPosition d then confirmShift s d w else w := by
  simp only [driveInputs, h]

theorem driveInputs_releasing (h : (w.drive d).state = .releasing) :
    driveInputs s d w = if s.roadPosition d then enterReleased d w else w := by
  simp only [driveInputs, h]

theorem driveInputs_turning (h : (w.drive d).state.turning = true) : driveInputs s d w = monitors s d w := by
  cases hs : (w.drive d).state <;> simp [hs, DriveState.turning] at h <;> simp only [driveInputs, hs]

theorem driveInputs_faulted (h : (w.drive d).state = .faulted) :
    driveInputs s d w = if (w.drive d).phase = .restore ∧ s.roadPosition d then endRestore w else w := by
  simp only [driveInputs, h]

theorem driveInputs_waiting (h : (w.drive d).state = .disengaged ∨ (w.drive d).state = .preparing) :
    driveInputs s d w = w := by
  obtain h | h := h <;> simp only [driveInputs, h]

end

/-! ## The slot lent through each body -/

section
variable {w : DeuWork} (h : w.Lent) (s : State) (d : Drive)
include h

/-- The law reads the unit alone. -/
theorem DeuWork.Lent.of_deu {w' : DeuWork} (hdeu : w'.deu = w.deu) : w'.Lent where
  distinct := hdeu ▸ h.distinct
  drive e := by
    have lent := h.drive e
    unfold DeuWork.drive at lent ⊢
    rwa [hdeu]

/-- A drive in SHIFTING, in RELEASING or in a road restore holds the slot, and no release of it is pending. -/
theorem DeuWork.Lent.underWay (hs : holdsSlot (w.drive d) = true) :
    w.deu.holder = some d ∧ (w.drive d).pendingRelease = .none ∧ d ∉ w.deu.waiting := by
  obtain ⟨holder, pending⟩ := (h.drive d).slot hs
  refine ⟨holder, pending, (h.drive d).not_waiting (fun state => ?_) pending⟩
  simp [holdsSlot, state] at hs

/-- The rewriting of a record in fields that the law does not read. -/
theorem rewritten_lent {w' : DeuWork} {r : DriveRec} (hdeu : w'.deu = (w.setRec d r).deu)
    (state : r.state = (w.drive d).state) (phase : r.phase = (w.drive d).phase)
    (pending : r.pendingRelease = (w.drive d).pendingRelease) (purpose : r.seqPurpose = (w.drive d).seqPurpose) :
    w'.Lent :=
  (setRec_lent h d ((h.drive d).of_fields state phase pending purpose)).of_deu hdeu

theorem endRestore_lent (shifting : (w.drive .main).state ≠ .shifting)
    (releasing : (w.drive .main).state ≠ .releasing) : (endRestore w).Lent := by
  have lent := h.drive .main
  refine (endRestore_actsOn w).lent h ?_
  have record : (endRestore w).drive .main = { stopSeq (w.drive .main) with phase := .none } :=
    (freeSlot_drive ..).trans (DeuWork.setRec_drive ..)
  rw [record, endRestore, freeSlot_waiting, DeuWork.setRec_waiting]
  exact ⟨fun hs => by simp [holdsSlot, stopSeq, shifting, releasing] at hs, lent.waiting, lent.pending, nofun⟩

theorem motionMonitor_lent : (motionMonitor s w).Lent := by
  unfold motionMonitor
  dsimp only
  split
  · exact enterFaulted_lent h s .main _ nofun
  split
  · exact rewritten_lent h .main rfl rfl rfl rfl rfl
  · exact h

theorem commonMonitors_lent : (commonMonitors s d w).Lent := rewritten_lent h d rfl rfl rfl rfl rfl

/-- A record of a turning drive that moves between ENGAGED and ROLLING. -/
theorem setRec_lent_of_turning (ht : (w.drive d).state.turning = true) {r : DriveRec} (ht' : r.state.turning = true)
    (pending : r.pendingRelease = (w.drive d).pendingRelease) (purpose : r.seqPurpose = (w.drive d).seqPurpose) :
    (w.setRec d r).Lent := by
  have lent := h.drive d
  have turns {q : DriveState} (hq : q.turning = true) : q ≠ .preparing ∧ q ≠ .faulted := by
    constructor <;> rintro rfl <;> cases hq
  have waiting := lent.waiting
  simp only [(turns ht).1, false_or, ← pending] at waiting
  refine setRec_lent h d ⟨fun hs => absurd (holdsSlot_of_turning ht') (by simp [hs]), ?_, fun _ => .inl ht', fun hp => ?_⟩
  · simpa [(turns ht').1] using waiting
  · exact absurd (lent.restore (purpose ▸ hp)).1 (turns ht).2

theorem dropRollDemands_lent : (dropRollDemands d w).Lent := by
  refine (dropRollDemands_actsOn d w).lent h ?_
  rw [dropRollDemands_drive, dropRollDemands_holder, dropRollDemands_waiting]
  exact (h.drive d).of_fields rfl rfl rfl rfl

theorem moveRolling_lent : (moveRolling s w).Lent := by
  unfold moveRolling
  dsimp only
  split
  case h_1 state _ => exact setRec_lent_of_turning h .aux (by rw [state]; rfl) rfl rfl rfl
  case h_2 state _ =>
    refine setRec_lent_of_turning (dropRollDemands_lent h .aux) .aux ?_ rfl rfl rfl
    rw [dropRollDemands_drive]
    exact congrArg DriveState.turning state
  case h_3 => exact h

theorem overspeedMonitor_lent : (overspeedMonitor s w).Lent := by
  unfold overspeedMonitor
  dsimp only
  split
  · exact h
  split
  · split
    · exact rewritten_lent h .aux rfl rfl rfl rfl rfl
    · exact h
  · split <;> exact rewritten_lent h .aux rfl rfl rfl rfl rfl

theorem selectMonitor_lent : (selectMonitor s w).Lent := by
  unfold selectMonitor
  dsimp only
  split
  · split
    · exact rewritten_lent h .aux rfl rfl rfl rfl rfl
    · exact h
  split
  · exact h
  · exact rewritten_lent h .aux rfl rfl rfl rfl rfl

theorem monitors_lent : (monitors s d w).Lent := by
  cases d with
  | main =>
    unfold monitors
    dsimp only
    split
    · exact commonMonitors_lent (motionMonitor_lent h s) s .main
    · exact motionMonitor_lent h s
  | aux =>
    unfold monitors
    dsimp only
    split
    · exact commonMonitors_lent (selectMonitor_lent (overspeedMonitor_lent (moveRolling_lent h s) s) s) s .aux
    · exact commonMonitors_lent (moveRolling_lent h s) s .aux

/-- A drive in a road restore leaves MAIN out of SHIFTING and RELEASING. -/
theorem DeuWork.Lent.main_of_restoring (state : (w.drive d).state = .faulted) (phase : (w.drive d).phase = .restore) :
    (w.drive .main).state ≠ .shifting ∧ (w.drive .main).state ≠ .releasing := by
  obtain ⟨holder, -⟩ := h.underWay d (by simp [holdsSlot, state, phase])
  have main (hs : (w.drive .main).state = .shifting ∨ (w.drive .main).state = .releasing) : False := by
    obtain ⟨holder', -⟩ := h.underWay .main (by obtain hs | hs := hs <;> simp [holdsSlot, hs])
    obtain rfl : d = .main := Option.some.inj (holder.symm.trans holder')
    simp [state] at hs
  exact ⟨fun hs => main (.inl hs), fun hs => main (.inr hs)⟩

theorem driveInputs_lent : (driveInputs s d w).Lent := by
  cases hs : (w.drive d).state with
  | disengaged => rwa [driveInputs_waiting (.inl hs)]
  | preparing => rwa [driveInputs_waiting (.inr hs)]
  | shifting =>
    rw [driveInputs_shifting hs]
    split
    · exact confirmShift_lent h s d hs
    · exact h
  | releasing =>
    rw [driveInputs_releasing hs]
    split
    · exact enterReleased_lent h d (h.underWay d (by simp [holdsSlot, hs])).2.1
    · exact h
  | engaged | rolling =>
    rw [driveInputs_turning (by rw [hs]; rfl)]
    exact monitors_lent h s d
  | faulted =>
    rw [driveInputs_faulted hs]
    split
    case isTrue hr =>
      obtain ⟨shifting, releasing⟩ := h.main_of_restoring d hs hr.1
      exact endRestore_lent h shifting releasing
    case isFalse => exact h

theorem bodyInputs_lent : (bodyInputs s w).Lent := driveInputs_lent (driveInputs_lent h s .main) s .aux

theorem bodySupply_lent : (bodySupply s w).Lent := by
  have followed {v : DeuWork} (hv : v.Lent) (e : Drive) (p : Prop) [Decidable p] (seq : Timer) :
      (v.setRec e (if p then { v.drive e with seq := seq } else v.drive e)).Lent := by
    split <;> exact rewritten_lent hv e rfl rfl rfl rfl rfl
  exact followed (followed h .main _ _) .aux _ _

theorem bodyPermissiveExpired_lent : (bodyPermissiveExpired d w).Lent := by
  unfold bodyPermissiveExpired
  split
  case isTrue hs =>
    exact enterIdle_lent h d _ ((h.drive d).pending_none (by rw [hs]; rfl) (by simp [hs]))
  case isFalse => exact h

theorem startOffTime_lent (hs : (w.drive d).state = .shifting ∨ (w.drive d).state = .releasing) :
    (startOffTime s d w).Lent := by
  have lent := h.drive d
  have underWay : holdsSlot (w.drive d) = true := by obtain hs | hs := hs <;> simp [holdsSlot, hs]
  exact setRec_lent h d ⟨fun _ => lent.slot underWay, lent.waiting, lent.pending, nofun⟩

theorem bodyConfirmExpired_lent : (bodyConfirmExpired s d w).Lent := by
  have main (hs : (w.drive .main).state = .shifting) := (h.underWay .main (by simp [holdsSlot, hs])).1
  unfold bodyConfirmExpired
  dsimp only
  split
  case h_1 hs _ => exact startOffTime_lent h s _ (.inl hs)
  case h_2 hs _ => exact enterFaulted_lent h s .main _ fun _ => main hs
  case h_4 hs _ => exact startOffTime_lent h s _ (.inr hs)
  case h_3 | h_5 | h_6 => exact enterFaulted_lent h s _ _ nofun
  case h_7 => exact h

theorem bodyRetryOffExpired_lent : (bodyRetryOffExpired s d w).Lent := by
  have lent := h.drive d
  refine setRec_lent h d ⟨fun hs => lent.slot ?_, lent.waiting, lent.pending, nofun⟩
  have : (w.drive d).state = .shifting ∨ (w.drive d).state = .releasing := by
    simpa [holdsSlot, startSeq] using hs
  obtain hs | hs := this <;> simp [holdsSlot, hs]

theorem bodyIdleExpired_lent : (bodyIdleExpired s d w).Lent := by
  unfold bodyIdleExpired
  split
  · exact enterFaulted_lent h s d _ nofun
  · exact h

theorem bodyMonitorFault_lent (k : FaultKind) : (bodyMonitorFault s d k w).Lent := by
  unfold bodyMonitorFault
  split
  · exact enterFaulted_lent h s d _ nofun
  · exact h

theorem bodyOverspeedExpired_lent : (bodyOverspeedExpired w).Lent := by
  unfold bodyOverspeedExpired
  dsimp only
  split
  · exact rewritten_lent h .aux rfl rfl rfl rfl rfl
  · exact rewritten_lent h .aux rfl rfl rfl rfl rfl

end

/-! ## ENGAGE_DRIVE and RELEASE_DRIVE -/

/-- The record of a drive whose shift is asked for (R70). -/
def DriveRec.requested (s : State) (r : DriveRec) : DriveRec :=
  { startSeq s .permissive (sec s.driveParams.permWaitS) { r with joined := some s.now } with
    state := .preparing, cause := some .requested, retryUsed := false, accepted := s.now }

/-- An ENGAGE_DRIVE that is accepted (R70). -/
def engageAccepted (s : State) (d : Drive) (w : DeuWork) : DeuWork :=
  { (join s d w).setRec d ((w.drive d).requested s) with status := .accepted }

section
variable {s : State} {d : Drive} {w : DeuWork}

theorem engageAccepted_drive : (engageAccepted s d w).drive d = (w.drive d).requested s := DeuWork.setRec_drive ..

theorem mem_engageAccepted_waiting {e : Drive} :
    e ∈ (engageAccepted s d w).deu.waiting ↔ e ∈ w.deu.waiting ∨ e = d := mem_join_waiting s d w

theorem bodyEngage_accepted (conf : s.pfu.conf = .configured) (adopted : w.deu.adopted = true)
    (state : (w.drive d).state = .disengaged) (guard : s.lku.effect (startGuard d) = none) :
    bodyEngage s d w = engageAccepted s d w := by
  simp only [bodyEngage, conf, adopted, state, guard, engageAccepted, join_drive]
  rfl

/-- The answer by the tests in their order (R70). -/
theorem bodyEngage_status : (bodyEngage s d w).status.bytes =
    if s.pfu.conf = .loading ∨ s.pfu.conf = .unconfigured then [6#8]
    else if s.pfu.conf = .applying then [8#8]
    else if w.deu.adopted = false then [8#8]
    else if (w.drive d).state ≠ .disengaged then [2#8, 1#8]
    else match s.lku.effect (startGuard d) with
      | some n => [2#8, 2#8, byte n]
      | none => [1#8] := by
  cases conf : s.pfu.conf with
  | loading | unconfigured | applying => simp [bodyEngage, conf, Status.bytes]
  | configured =>
    cases adopted : w.deu.adopted with
    | false => simp [bodyEngage, conf, adopted, Status.bytes]
    | true =>
      by_cases state : (w.drive d).state = .disengaged
      · cases guard : s.lku.effect (startGuard d) with
        | some n => simp [bodyEngage, conf, adopted, state, guard, Status.bytes, Reason.bytes]
        | none => simp [bodyEngage_accepted conf adopted state guard, state, engageAccepted, Status.bytes]
      · simp [bodyEngage, conf, adopted, state, Status.bytes, Reason.bytes]

/-- An ENGAGE_DRIVE that is not accepted changes nothing (R70). -/
theorem bodyEngage_cases (s : State) (d : Drive) (w : DeuWork) :
    (bodyEngage s d w).deu = w.deu ∨
    (s.pfu.conf = .configured ∧ w.deu.adopted = true ∧ (w.drive d).state = .disengaged ∧
      s.lku.effect (startGuard d) = none ∧ bodyEngage s d w = engageAccepted s d w) := by
  cases conf : s.pfu.conf with
  | loading | unconfigured | applying => simp [bodyEngage, conf]
  | configured =>
    cases adopted : w.deu.adopted with
    | false => simp [bodyEngage, conf, adopted]
    | true =>
      by_cases state : (w.drive d).state = .disengaged
      · cases guard : s.lku.effect (startGuard d) with
        | some n => simp [bodyEngage, conf, adopted, state, guard]
        | none => exact .inr ⟨rfl, rfl, state, rfl, bodyEngage_accepted conf adopted state guard⟩
      · simp [bodyEngage, conf, adopted, state]

theorem bodyRelease_unadopted (adopted : w.deu.adopted = false) :
    bodyRelease s d w = { w with status := .busy } := by
  simp [bodyRelease, adopted]

section
variable (adopted : w.deu.adopted = true)
include adopted

theorem bodyRelease_refused
    (h : (w.drive d).state = .disengaged ∨ (w.drive d).state = .releasing ∨
      ((w.drive d).state.turning = true ∨ (w.drive d).state = .faulted) ∧ (w.drive d).pendingRelease ≠ .none) :
    bodyRelease s d w = { w with status := .refused .state } := by
  obtain h | h | ⟨h, pending⟩ := h
  · simp only [bodyRelease, adopted, h]; rfl
  · simp only [bodyRelease, adopted, h]; rfl
  · cases hs : (w.drive d).state <;> simp [hs, DriveState.turning] at h <;>
      simp [bodyRelease, adopted, hs, pending]

theorem bodyRelease_preparing (h : (w.drive d).state = .preparing) :
    bodyRelease s d w = { enterIdle d .cancelled w with status := .ok } := by
  simp only [bodyRelease, adopted, h]; rfl

theorem bodyRelease_holding (h : (w.drive d).state = .shifting ∨
      (w.drive d).state = .faulted ∧ (w.drive d).pendingRelease = .none ∧ (w.drive d).phase = .restore) :
    bodyRelease s d w = { releaseHolding s d w with status := .accepted } := by
  obtain h | ⟨h, pending, phase⟩ := h
  · simp only [bodyRelease, adopted, h]; rfl
  · simp [bodyRelease, adopted, h, pending, phase]

theorem bodyRelease_turning (h : (w.drive d).state.turning = true) (pending : (w.drive d).pendingRelease = .none) :
    bodyRelease s d w = { beginRelease s d w with status := .accepted } := by
  cases hs : (w.drive d).state <;> simp [hs, DriveState.turning] at h <;> simp [bodyRelease, adopted, hs, pending]

section
variable (h : (w.drive d).state = .faulted) (pending : (w.drive d).pendingRelease = .none)
  (phase : (w.drive d).phase ≠ .restore)
include h pending phase

theorem bodyRelease_faulted_at_road (road : s.roadPosition d = true ∧ (d = .main ∨ w.deu.do2 = false)) :
    bodyRelease s d w = { enterReleased d w with status := .ok } := by
  simp [bodyRelease, adopted, h, pending, phase, road]

theorem bodyRelease_faulted_off_road (road : ¬ (s.roadPosition d = true ∧ (d = .main ∨ w.deu.do2 = false))) :
    bodyRelease s d w =
      { beginRelease s d (if d = .aux then clutch false w else w) with status := .accepted } := by
  simpa [bodyRelease, adopted, h, pending, phase] using road

end

end

end

section
variable {w : DeuWork} (h : w.Lent) (s : State) (d : Drive)
include h

theorem bodyEngage_lent : (bodyEngage s d w).Lent := by
  obtain hdeu | ⟨-, -, state, -, accepted⟩ := bodyEngage_cases s d w
  · exact h.of_deu hdeu
  · have pending := (h.drive d).pending_none (by rw [state]; rfl) (by simp [state])
    rw [accepted]
    have requested : ((join s d w).setRec d ((w.drive d).requested s)).Lent := by
      refine ((join_actsOn s d w).trans (setRec_actsOn d _ _)).lent h ?_
      rw [DeuWork.setRec_drive, DeuWork.setRec_waiting]
      exact ⟨nofun, by simp [DriveRec.requested], fun hp => absurd pending hp, nofun⟩
    exact requested.of_deu rfl

theorem postRelease_lent : (postRelease d w).Lent := by
  refine (postRelease_actsOn d w).lent h ?_
  rw [postRelease_drive, postRelease_holder, postRelease_waiting]
  exact (h.drive d).of_fields rfl rfl rfl rfl

theorem releaseHolding_lent (slot : w.deu.holder = some d) : (releaseHolding s d w).Lent :=
  enterReleasing_lent (postRelease_lent h d) s d
    (DeuWork.slotFor_of_some (by rw [postRelease_holder, slot]))

theorem releasesClutch_lent (p : Prop) [Decidable p] : (if p then clutch false w else w).Lent := by
  split
  · exact ⟨h.distinct, h.drive⟩
  · exact h

theorem bodyRelease_lent : (bodyRelease s d w).Lent := by
  cases adopted : w.deu.adopted with
  | false => rw [bodyRelease_unadopted adopted]; exact h.of_deu rfl
  | true =>
    have refused (e : bodyRelease s d w = { w with status := .refused .state }) : (bodyRelease s d w).Lent :=
      e ▸ h.of_deu rfl
    have holding (hs : holdsSlot (w.drive d) = true)
        (e : bodyRelease s d w = { releaseHolding s d w with status := .accepted }) : (bodyRelease s d w).Lent :=
      e ▸ (releaseHolding_lent h s d (h.underWay d hs).1).of_deu rfl
    have turning (ht : (w.drive d).state.turning = true) : (bodyRelease s d w).Lent := by
      by_cases pending : (w.drive d).pendingRelease = .none
      · rw [bodyRelease_turning adopted ht pending]
        exact (beginRelease_lent h s d (.inl ht) (holdsSlot_of_turning ht)).of_deu rfl
      · exact refused (bodyRelease_refused adopted (.inr (.inr ⟨.inl ht, pending⟩)))
    cases hs : (w.drive d).state with
    | disengaged => exact refused (bodyRelease_refused adopted (.inl hs))
    | releasing => exact refused (bodyRelease_refused adopted (.inr (.inl hs)))
    | preparing =>
      have pending := (h.drive d).pending_none (by rw [hs]; rfl) (by simp [hs])
      rw [bodyRelease_preparing adopted hs]
      exact (enterIdle_lent h d _ pending).of_deu rfl
    | shifting => exact holding (by simp [holdsSlot, hs]) (bodyRelease_holding adopted (.inl hs))
    | engaged | rolling => exact turning (by rw [hs]; rfl)
    | faulted =>
      by_cases pending : (w.drive d).pendingRelease = .none
      case neg => exact refused (bodyRelease_refused adopted (.inr (.inr ⟨.inr hs, pending⟩)))
      by_cases phase : (w.drive d).phase = .restore
      case pos => exact holding (by simp [holdsSlot, hs, phase]) (bodyRelease_holding adopted (.inr ⟨hs, pending, phase⟩))
      by_cases road : s.roadPosition d = true ∧ (d = .main ∨ w.deu.do2 = false)
      case pos =>
        rw [bodyRelease_faulted_at_road adopted hs pending phase road]
        exact (enterReleased_lent h d pending).of_deu rfl
      case neg =>
        rw [bodyRelease_faulted_off_road adopted hs pending phase road]
        refine (beginRelease_lent (releasesClutch_lent h _) s d ?_ ?_).of_deu rfl
        · rw [releasesClutch_drive]; exact .inr hs
        · rw [releasesClutch_drive]; simp [holdsSlot, hs, phase]

end

end Sys2Proof.Machine

end


section
/-! PROOFS. What every step keeps of the shift slot, of the alarm cause set and of the cut demand set. -/

namespace Sys2Proof.Machine

open Sys2Proof.Safety

/-! ## The events of the Drive Engagement Unit -/

/-- The publications the unit takes, its timers' expiries and its two requests. A road restore's timer runs for a drive
in its road restore alone. -/
inductive DeuBody (s : State) : (DeuWork → DeuWork) → Prop where
  | test : DeuBody s id
  | inputs : DeuBody s (bodyInputs s)
  | supply : DeuBody s (bodySupply s)
  | permissive (d : Drive) : DeuBody s (bodyPermissiveExpired d)
  | confirm (d : Drive) : DeuBody s (bodyConfirmExpired s d)
  | retryOff (d : Drive) : DeuBody s (bodyRetryOffExpired s d)
  | restored (h : s.deu.drives.main.seqPurpose = some .restore) : DeuBody s endRestore
  | idle (d : Drive) : DeuBody s (bodyIdleExpired s d)
  | monitor (d : Drive) (k : FaultKind) : DeuBody s (bodyMonitorFault s d k)
  | overspeed : DeuBody s bodyOverspeedExpired
  | engage (d : Drive) : DeuBody s (bodyEngage s d)
  | release (d : Drive) : DeuBody s (bodyRelease s d)

section
variable {s : State} {body : DeuWork → DeuWork} (hbody : DeuBody s body)
include hbody

theorem DeuBody.adopted (w : DeuWork) : (body w).deu.adopted = w.deu.adopted := by
  cases hbody with
  | test => rfl
  | inputs => exact bodyInputs_adopted s w
  | supply => exact bodySupply_adopted s w
  | permissive d => exact bodyPermissiveExpired_adopted d w
  | confirm d => exact bodyConfirmExpired_adopted s d w
  | retryOff d => exact bodyRetryOffExpired_adopted s d w
  | restored => exact endRestore_adopted w
  | idle d => exact bodyIdleExpired_adopted s d w
  | monitor d k => exact bodyMonitorFault_adopted s d w k
  | overspeed => exact bodyOverspeedExpired_adopted w
  | engage d => exact bodyEngage_adopted s d w
  | release d => exact bodyRelease_adopted s d w

/-- Each body, behind adoption, keeps the slot lent. -/
theorem DeuBody.lent (h : SlotLent s) : (body (adopt s s.deuWork)).Lent := by
  have lent := adopt_lent h
  cases hbody with
  | test => exact lent
  | inputs => exact bodyInputs_lent lent s
  | supply => exact bodySupply_lent lent s
  | permissive d => exact bodyPermissiveExpired_lent lent d
  | confirm d => exact bodyConfirmExpired_lent lent s d
  | retryOff d => exact bodyRetryOffExpired_lent lent s d
  | idle d => exact bodyIdleExpired_lent lent s d
  | monitor d k => exact bodyMonitorFault_lent lent s d k
  | overspeed => exact bodyOverspeedExpired_lent lent
  | engage d => exact bodyEngage_lent lent s d
  | release d => exact bodyRelease_lent lent s d
  | restored purpose =>
    obtain ⟨begun, -⟩ := (slotLent_iff s).1 h
    have faulted : s.deu.drives.main.state = .faulted := ((begun.drive .main).restore purpose).1
    have adopted : s.deu.adopted = true := slotLent_adopted h (d := .main) (by simp [PerDrive.get, faulted])
    rw [adopt_of_adopted adopted]
    have state : (s.deuWork.drive .main).state = .faulted := faulted
    exact endRestore_lent begun (by simp [state]) (by simp [state])

end

/-! Before adoption (R89): both drives read DISENGAGED, and no body takes one out of it. -/

theorem rewritten_state (w : DeuWork) (d : Drive) {w' : DeuWork} {r : DriveRec} (e : Drive)
    (hdeu : w'.deu = (w.setRec d r).deu) (h : r.state = (w.drive d).state) : (w'.drive e).state = (w.drive e).state := by
  have drive : w'.drive e = (w.setRec d r).drive e := congrArg (fun u : Deu => u.drives.get e) hdeu
  rw [drive]
  by_cases he : e = d
  · subst he
    rw [DeuWork.setRec_drive, h]
  · rw [DeuWork.setRec_drive_other _ _ he]

theorem bodySupply_state (s : State) (w : DeuWork) (e : Drive) :
    ((bodySupply s w).drive e).state = (w.drive e).state := by
  have followed (v : DeuWork) (d : Drive) (p : Prop) [Decidable p] (seq : Timer) (e : Drive) :
      ((v.setRec d (if p then { v.drive d with seq := seq } else v.drive d)).drive e).state = (v.drive e).state :=
    rewritten_state v d e rfl (by split <;> rfl)
  exact (followed _ .aux _ _ e).trans (followed w .main _ _ e)

theorem bodyOverspeedExpired_state (w : DeuWork) (e : Drive) :
    ((bodyOverspeedExpired w).drive e).state = (w.drive e).state := by
  unfold bodyOverspeedExpired
  dsimp only
  split
  · exact rewritten_state w .aux e rfl rfl
  · exact rewritten_state w .aux e rfl rfl

theorem DeuBody.disengaged {s : State} {body : DeuWork → DeuWork} (hbody : DeuBody s body) (h : SlotLent s)
    {w : DeuWork} (hw : w.Lent) (unadopted : w.deu.adopted = false) (hs : s.deu.adopted = false)
    (disengaged : ∀ d, (w.drive d).state = .disengaged) (e : Drive) : ((body w).drive e).state = .disengaged := by
  have pending (d : Drive) := (hw.drive d).pending_none (by rw [disengaged]; rfl) (by simp [disengaged])
  have same {v : DeuWork} (hv : v = w) : (v.drive e).state = .disengaged := hv ▸ disengaged e
  cases hbody with
  | test => exact disengaged e
  | inputs =>
    refine same ?_
    rw [bodyInputs, driveInputs_waiting (d := .main) (.inl (disengaged _)),
      driveInputs_waiting (d := .aux) (.inl (disengaged _))]
  | supply => exact (bodySupply_state s w e).trans (disengaged e)
  | permissive d => exact same (if_neg (by simp [disengaged]))
  | confirm d => exact same (by simp only [bodyConfirmExpired, disengaged])
  | retryOff d => exact (rewritten_state w d e (w' := bodyRetryOffExpired s d w) rfl rfl).trans (disengaged e)
  | restored purpose =>
    obtain ⟨begun, -⟩ := (slotLent_iff s).1 h
    have faulted : s.deu.drives.main.state = .faulted := ((begun.drive .main).restore purpose).1
    have adopted := slotLent_adopted h (d := .main) (by simp [PerDrive.get, faulted])
    simp [hs] at adopted
  | idle d => exact same (if_neg (by simp [pending]))
  | monitor d k => exact same (if_neg (by simp [disengaged, DriveState.turning]))
  | overspeed => exact (bodyOverspeedExpired_state w e).trans (disengaged e)
  | engage d =>
    obtain hdeu | ⟨-, adopted, -⟩ := bodyEngage_cases s d w
    · exact (congrArg (fun u : Deu => (u.drives.get e).state) hdeu).trans (disengaged e)
    · simp [unadopted] at adopted
  | release d =>
    rw [bodyRelease_unadopted unadopted]
    exact disengaged e

/-- Every event of the unit keeps the slot lent. -/
theorem State.deuTakes_slotLent {s : State} {body : DeuWork → DeuWork} (hbody : DeuBody s body) (h : SlotLent s) :
    SlotLent (s.deuTakes body) := by
  have lent := slotOffered_lent s (hbody.lent h)
  refine (slotLent_iff _).2 ⟨⟨lent.distinct, lent.drive⟩, fun unadopted => ?_⟩
  have adopted := deuRun_adopted s hbody.adopted
  rw [State.deuTakes, State.deuCommit_deu, adopted, Bool.or_eq_false_iff] at unadopted
  obtain ⟨begun, disengaged⟩ := (slotLent_iff s).1 h
  intro d
  have left := hbody.disengaged h begun unadopted.1 unadopted.1 (disengaged unadopted.1)
  have bodyLent := hbody.lent h
  rw [adopt_of_not_due unadopted.2] at bodyLent
  have idle := bodyLent.drive d
  have waiting := idle.not_waiting (by simp [left]) (idle.pending_none (by rw [left]; rfl) (by simp [left]))
  rw [State.deuTakes_deu, adopt_of_not_due unadopted.2]
  exact (congrArg DriveRec.state (slotOffered_spares s bodyLent waiting).drive).trans (left d)

theorem State.deuEvent_slotLent {s : State} (h : SlotLent s) (e : Event) : SlotLent (s.deuEvent e) := by
  cases e with
  | inputs => exact State.deuTakes_slotLent .inputs h
  | supply _ _ => exact State.deuTakes_slotLent .supply h
  | lockouts _ | conf _ _ => exact State.deuTakes_slotLent .test h
  | _ => exact h

/-! ## The alarm cause set (R107)

The watches and warnings of an event post and withdraw; the set itself takes their operations at its end. -/

section
variable (s : State) (d : Drive) (k : Watch) (w : PpuWork)

@[simp] theorem PpuWork.setWatch_alarms (r : WatchRec) : (w.setWatch d k r).ppu.alarms = w.ppu.alarms := rfl

@[simp] theorem tripActions_alarms (cut : Bool) (value : Option Int) (condition : Option Nat) :
    (tripActions d k cut value condition w).ppu.alarms = w.ppu.alarms := rfl

@[simp] theorem clearWatch_alarms (c : WatchCause) : (clearWatch d k c w).ppu.alarms = w.ppu.alarms := by
  unfold clearWatch
  dsimp only
  split <;> rfl

@[simp] theorem thresholdInputs_alarms (j : Threshold) : (thresholdInputs s d j w).ppu.alarms = w.ppu.alarms := by
  unfold thresholdInputs
  dsimp only
  split <;> rfl

theorem thresholdExpired_alarms (j : Threshold) : (thresholdExpired s d j w).ppu.alarms = w.ppu.alarms := by
  unfold thresholdExpired
  dsimp only
  split <;> simp

@[simp] theorem cutTest_alarms : (cutTest s d w).ppu.alarms = w.ppu.alarms := by
  by_cases hcut : CutDue s d (w.watch d .dryRun)
  · rw [cutTest_due hcut]; rfl
  · rw [cutTest_not_due hcut]

@[simp] theorem dryRunStep_alarms : (dryRunStep s d w).ppu.alarms = w.ppu.alarms := by
  unfold dryRunStep
  dsimp only
  split
  · rfl
  · split <;> simp

@[simp] theorem dryRunPeak_alarms : (dryRunPeak s d w).ppu.alarms = w.ppu.alarms := by
  unfold dryRunPeak
  dsimp only
  split <;> rfl

theorem dryExpired_alarms : (dryExpired s d w).ppu.alarms = w.ppu.alarms := by simp [dryExpired]

theorem dryClearExpired_alarms : (dryClearExpired d w).ppu.alarms = w.ppu.alarms := by
  unfold dryClearExpired
  split <;> simp

@[simp] theorem overheatWarn_alarms : (overheatWarn s d w).ppu.alarms = w.ppu.alarms := by
  unfold overheatWarn
  split
  · rfl
  · split <;> rfl

@[simp] theorem tankReserve_alarms : (tankReserve s w).ppu.alarms = w.ppu.alarms := rfl

@[simp] theorem pumpInputs_alarms : (pumpInputs s d w).ppu.alarms = w.ppu.alarms := by
  rw [pumpInputs_eq]
  simp [PpuWork.refreshed]

theorem ppuInputs_alarms : (ppuInputs s w).ppu.alarms = w.ppu.alarms := by simp [ppuInputs]

theorem ppuLevels_alarms : (ppuLevels s w).ppu.alarms = w.ppu.alarms := by simp [ppuLevels]

@[simp] theorem stopPump_alarms : (stopPump s d w).ppu.alarms = w.ppu.alarms := by
  unfold stopPump
  split
  · rfl
  · simp

theorem ppuDrives_alarms : (ppuDrives s w).ppu.alarms = w.ppu.alarms := by simp [ppuDrives]

@[simp] theorem unloadPump_alarms : (unloadPump w d).ppu.alarms = w.ppu.alarms := by simp [unloadPump, allWatches]

@[simp] theorem ppuUnload_alarms : (ppuUnload w).ppu.alarms = w.ppu.alarms := by simp [ppuUnload, bothDrives]

theorem ppuConf_alarms (before after : Conf) : (ppuConf s before after w).ppu.alarms = w.ppu.alarms := by
  unfold ppuConf
  dsimp only
  split <;> split <;> simp

end

/-- A body that moves neither a cause in nor one out of the set before the event's end. -/
def KeepsCauses (body : PpuWork → PpuWork) : Prop :=
  ∀ w, (body w).ppu.alarms.map (·.cause) = w.ppu.alarms.map (·.cause)

theorem KeepsCauses.of_alarms {body : PpuWork → PpuWork} (h : ∀ w, (body w).ppu.alarms = w.ppu.alarms) :
    KeepsCauses body := fun w => by rw [h]

/-- Silencing marks the members and moves none (R108). -/
theorem bodySilence_keepsCauses : KeepsCauses bodySilence := fun w => by simp [bodySilence, Function.comp_def]

theorem State.ppuEvent_body (s : State) (e : Event) :
    s.ppuEvent e = s ∨ ∃ body, KeepsCauses body ∧ s.ppuEvent e = s.ppuTakes body := by
  cases e with
  | inputs => exact .inr ⟨_, .of_alarms (ppuInputs_alarms s), rfl⟩
  | gauges => exact .inr ⟨_, .of_alarms (ppuLevels_alarms s), rfl⟩
  | drives => exact .inr ⟨_, .of_alarms (ppuDrives_alarms s), rfl⟩
  | conf before after => exact .inr ⟨_, .of_alarms fun w => ppuConf_alarms s w before after, rfl⟩
  | alarms ops => exact .inr ⟨fun w => { w with ops := ops }, .of_alarms fun _ => rfl, rfl⟩
  | levels bandChanged _ _ =>
    cases bandChanged with
    | true => exact .inr ⟨_, .of_alarms (ppuLevels_alarms s), rfl⟩
    | false => exact .inl rfl
  | _ => exact .inl rfl

/-! ## The cut demand set (R137) -/

theorem cutOp_nodup {cuts : List Cut} (h : cuts.Nodup) (op : SetOp Cut) : (cutOp cuts op).Nodup := by
  cases op with
  | withdraw c => exact h.filter _
  | post c =>
    simp only [cutOp]
    split
    case isTrue => exact h
    case isFalse hc =>
      have new : c ∉ cuts := by simpa using hc
      exact List.nodup_append.2 ⟨h, by simp, by simpa using fun x hx (e : x = c) => new (e ▸ hx)⟩

/-- No list of posts and withdrawals puts a cut into the set twice (R137). -/
theorem takeCuts_nodup (ops : List (SetOp Cut)) {cuts : List Cut} (h : cuts.Nodup) : (takeCuts cuts ops).1.Nodup := by
  induction ops generalizing cuts with
  | nil => exact h
  | cons op rest ih => exact ih (cutOp_nodup h op)

section
variable (s : State) (w : TauWork)

@[simp] theorem returnIf_cuts (found : Bool) (c : AuthCause) : (returnIf s found c w).tau.cuts = w.tau.cuts := by
  unfold returnIf
  split <;> rfl

@[simp] theorem driveLeft_cuts : (driveLeft s w).tau.cuts = w.tau.cuts := returnIf_cuts ..

@[simp] theorem complete_cuts : (complete s w).tau.cuts = w.tau.cuts := by
  unfold complete
  split
  · split <;> rfl
  · rfl

@[simp] theorem holdReclaim_cuts : (holdReclaim s w).tau.cuts = w.tau.cuts := by
  unfold holdReclaim
  split <;> rfl

@[simp] theorem cabRequest_cuts : (cabRequest s w).tau.cuts = w.tau.cuts := by
  unfold cabRequest
  split
  · simp
  · split
    · simp
    · split <;> simp
  · rfl

@[simp] theorem panelRequest_cuts : (panelRequest s w).tau.cuts = w.tau.cuts := by
  unfold panelRequest
  split
  · split <;> rfl
  · rfl
  · rfl

@[simp] theorem releaseHold_cuts : (releaseHold s w).tau.cuts = w.tau.cuts := by
  unfold releaseHold
  split <;> rfl

theorem tauInputs_cuts : (tauInputs s w).tau.cuts = w.tau.cuts := by
  unfold tauInputs
  dsimp only
  split <;> simp

theorem tauDrives_cuts : (tauDrives s w).tau.cuts = w.tau.cuts := by simp [tauDrives]

theorem tauLockouts_cuts : (tauLockouts s w).tau.cuts = w.tau.cuts := by simp [tauLockouts]

theorem tauCuts_cuts (ops : List (SetOp Cut)) : (tauCuts s ops w).tau.cuts = (takeCuts w.tau.cuts ops).1 := by
  simp [tauCuts]

theorem tauTransferExpired_cuts : (tauTransferExpired w).tau.cuts = w.tau.cuts := by
  unfold tauTransferExpired
  split <;> rfl

theorem tauReclaimExpired_cuts : (tauReclaimExpired s w).tau.cuts = w.tau.cuts := by simp [tauReclaimExpired]

theorem bodyReclaim_cuts : (bodyReclaim s w).tau.cuts = w.tau.cuts := by
  unfold bodyReclaim
  split <;> simp

end

/-- A body that brings no cut into the set twice. -/
def KeepsCutsDistinct (body : TauWork → TauWork) : Prop := ∀ w, w.tau.cuts.Nodup → (body w).tau.cuts.Nodup

theorem KeepsCutsDistinct.of_cuts {body : TauWork → TauWork} (h : ∀ w, (body w).tau.cuts = w.tau.cuts) :
    KeepsCutsDistinct body := fun w hw => (h w).symm ▸ hw

theorem State.tauEvent_body (s : State) (e : Event) :
    s.tauEvent e = s ∨ ∃ body, KeepsCutsDistinct body ∧ s.tauEvent e = s.tauTakes body := by
  cases e with
  | inputs => exact .inr ⟨_, .of_cuts (tauInputs_cuts s), rfl⟩
  | drives => exact .inr ⟨_, .of_cuts (tauDrives_cuts s), rfl⟩
  | cuts ops => exact .inr ⟨_, fun w hw => (tauCuts_cuts s w ops).symm ▸ takeCuts_nodup ops hw, rfl⟩
  | lockouts changed =>
    rw [State.tauEvent]
    split
    · exact .inr ⟨_, .of_cuts (tauLockouts_cuts s), rfl⟩
    · exact .inl rfl
  | _ => exact .inl rfl

/-! ## What reaches the drives and the sets

The Drive Engagement Unit, the Pump Protection Unit and the Throttle Authority Unit change by their own events alone. A
law that speaks of the three and that those events and a reset keep is kept by every step. -/

/-- The three units. -/
def State.drivesAndSets (s : State) : Deu × Ppu × Tau := (s.deu, s.ppu, s.tau)

/-- A law of the three units that every event keeps. -/
structure KeptByDrivesAndSets (P : State → Prop) : Prop where
  still : ∀ {s t : State}, P s → t.drivesAndSets = s.drivesAndSets → P t
  drives : ∀ {s : State} {body : DeuWork → DeuWork}, DeuBody s body → P s → P (s.deuTakes body)
  pumps : ∀ {s : State} {body : PpuWork → PpuWork}, KeepsCauses body → P s → P (s.ppuTakes body)
  authority : ∀ {s : State} {body : TauWork → TauWork}, KeepsCutsDistinct body → P s → P (s.tauTakes body)
  reset : ∀ high faults schedule pending, P (.afterReset high faults schedule pending)

namespace KeptByDrivesAndSets

variable {P : State → Prop} (law : KeptByDrivesAndSets P) {s : State} (h : P s)
include law h

/-- A publication taken by any block. -/
theorem deliver (b : Block) (e : Event) : P (s.deliver b e) := by
  cases b with
  | deu =>
    rw [State.deliver]
    cases e with
    | inputs => exact law.drives .inputs h
    | supply _ _ => exact law.drives .supply h
    | lockouts _ | conf _ _ => exact law.drives .test h
    | _ => exact h
  | ppu =>
    obtain he | ⟨body, hbody, he⟩ := s.ppuEvent_body e <;> rw [State.deliver, he]
    exacts [h, law.pumps hbody h]
  | tau =>
    obtain he | ⟨body, hbody, he⟩ := s.tauEvent_body e <;> rw [State.deliver, he]
    exacts [h, law.authority hbody h]
  | isu | tgu => cases e <;> exact law.still h rfl
  | lbu => obtain he | ⟨b, r, he⟩ := s.lbuEvent_cases e <;> rw [State.deliver, he] <;> exact law.still h rfl
  | lku => obtain he | ⟨w, he⟩ := s.lkuEvent_cases e <;> rw [State.deliver, he] <;> exact law.still h rfl
  | drc => obtain he | ⟨w, he⟩ := s.drcEvent_cases e <;> rw [State.deliver, he] <;> exact law.still h rfl
  | pfu => obtain he | he := s.pfuEvent_cases e <;> rw [State.deliver, he] <;> exact law.still h rfl
  | lnk =>
    obtain he | ⟨body, he⟩ | ⟨r, -, he⟩ := s.lnkEvent_cases e <;> rw [State.deliver, he] <;> exact law.still h rfl

theorem finish : P s.finish := by
  have settled : P (settle Config.settleBound s) :=
    settle_keeps_all P (fun _ ht => law.still ht rfl)
      (fun t b e left ht => deliver law (s := { t with agenda := left, schedule := t.schedule.drop 1 })
        (law.still ht rfl) b e) _ s h
  rw [State.finish]
  obtain hr | ⟨-, hr⟩ := State.restartIfDue_cases (settle Config.settleBound s) <;> rw [hr]
  exacts [settled, law.reset _ _ _ _]

theorem onDrive (b : Byte) {f : Drive → State} (hf : ∀ d, P (f d)) : P (s.onDrive b f) := by
  unfold State.onDrive
  split
  · exact hf _
  · exact law.still h rfl

/-- A request passed to its owner: one of the three units, or one that the law does not read. -/
theorem own (kind : Nat) (b : List Byte) : P (s.own kind b) := by
  unfold State.own
  split
  case h_6 => exact onDrive law h _ fun d => law.still (law.drives (.engage d) h) rfl
  case h_7 => exact onDrive law h _ fun d => law.still (law.drives (.release d) h) rfl
  case h_8 => exact law.still (law.authority (.of_cuts (bodyReclaim_cuts s)) h) rfl
  case h_9 => exact law.still (law.pumps bodySilence_keepsCauses h) rfl
  case h_3 => unfold State.getTank; split <;> exact law.still h rfl
  case h_5 => unfold State.setMask; split <;> exact law.still h rfl
  case h_10 => unfold State.clearFill; split <;> exact law.still h rfl
  case h_23 =>
    unfold State.requestRestart
    split
    · exact law.still h rfl
    · split <;> exact law.still h rfl
  all_goals exact law.still h rfl

theorem serve (f : Frame) : P (s.serve f) := by
  have inService : P { s with lnk := { s.lnk with service := some ⟨f.kind, f.tag, none⟩ } } := law.still h rfl
  unfold State.serve
  dsimp only
  split
  · exact law.still inService rfl
  split
  · exact law.still inService rfl
  · exact own law inService _ _

theorem offerFrame (f : Frame) : P (s.offerFrame f) := by
  unfold State.offerFrame
  split
  · exact serve law h f
  · split <;> exact law.still h rfl

theorem replySent : P s.replySent := by
  unfold State.replySent
  split
  · split
    case h_2 =>
      refine serve law ?_ _
      exact law.still h rfl
    all_goals exact law.still h rfl
  · exact h

theorem receive (b : Byte) (framingError : Bool) : P (s.receive b framingError) := by
  unfold State.receive
  dsimp only
  split
  · split <;> exact law.still h rfl
  split
  · exact law.still h rfl
  unfold State.assemble
  dsimp only
  split
  · exact law.still h rfl
  split
  · exact law.still h rfl
  split
  · refine offerFrame law ?_ _
    exact law.still h rfl
  · exact law.still h rfl

theorem slotWriteEnded (outcome : WriteEnd) : P (s.slotWriteEnded outcome) := by
  unfold State.slotWriteEnded
  split <;> exact law.still h rfl

theorem slotReadEnded (outcome : SlotEnd) : P (s.slotReadEnded outcome) := by
  unfold State.slotReadEnded
  split <;> exact law.still h rfl

theorem pageReadEnded (outcome : PageEnd) : P (s.pageReadEnded outcome) := by
  unfold State.pageReadEnded
  split <;> exact law.still h rfl

theorem pageWriteEnded (outcome : WriteEnd) : P (s.pageWriteEnded outcome) := by
  unfold State.pageWriteEnded
  split <;> exact law.still h rfl

/-- A command's own effect, but for the end of a road restore, whose timer must run for it. -/
theorem ownEffect {c : Instr} (hc : c ≠ .restoreTimerExpiry) : P (Machine.ownEffect c s) := by
  cases c with
  | restoreTimerExpiry => exact absurd rfl hc
  | powerOnReset | pinReset => exact law.reset _ _ _ _
  | permissiveTimerExpiry d => exact law.drives (.permissive d) h
  | confirmTimerExpiry d => exact law.drives (.confirm d) h
  | retryOffExpiry d => exact law.drives (.retryOff d) h
  | idleTimerExpiry d => exact law.drives (.idle d) h
  | positionTimerExpiry d | slipTimerExpiry d | stallTimerExpiry d => exact law.drives (.monitor d _) h
  | overspeedTimerExpiry => exact law.drives .overspeed h
  | persistTimerExpiry d k => exact law.pumps (.of_alarms fun w => thresholdExpired_alarms s d w k) h
  | dryTimerExpiry d => exact law.pumps (.of_alarms (dryExpired_alarms s d)) h
  | dryRunClearExpiry d => exact law.pumps (.of_alarms (dryClearExpired_alarms d)) h
  | transferTimerExpiry => exact law.authority (.of_cuts tauTransferExpired_cuts) h
  | reclaimTimerExpiry => exact law.authority (.of_cuts (tauReclaimExpired_cuts s)) h
  | halfPageWriteEnd _ outcome => exact slotWriteEnded law h outcome
  | slotReadEnd _ outcome => exact slotReadEnded law h outcome
  | pageReadEnd _ outcome => exact pageReadEnded law h outcome
  | pageWriteEnd _ outcome => exact pageWriteEnded law h outcome
  | hlrxByte _ b framingError => exact receive law h b framingError
  | replySent => exact replySent law h
  | scan | pulse | holdTimerExpiry | stillTimerExpiry | recoveryTimerExpiry | gaugeCycle | recloseTimerExpiry
  | lowPressureTimerExpiry | noRiseTimerExpiry | overrideTimerExpiry | syncTimerExpiry | gapTimerExpiry =>
    exact law.still h rfl
  | _ => exact offerFrame law h _

theorem begun (time : Micros) : P (s.beginAt time) := law.still h rfl

/-- The road restore's timer runs for its purpose alone (R75). -/
theorem restoreTimerExpiry {t : State} (ht : Machine.exec .restoreTimerExpiry s = .next t) : P t := by
  obtain he | ⟨due, running, he⟩ := atExpiry_cases (s.seqTimer .main .restore) (fun s => s.deuTakes endRestore) s <;>
    cases he.symm.trans ht
  · exact h
  · have purpose : s.deu.drives.main.seqPurpose = some .restore := by
      by_contra hp
      have stopped : s.seqTimer .main .restore = .stopped := if_neg hp
      cases stopped.symm.trans running
    exact finish law (law.drives (s := s.beginAt (max s.now due)) (.restored purpose) (begun law h _))

theorem exec {c : Instr} {t : State} (ht : Machine.exec c s = .next t) : P t := by
  by_cases hc : c = .restoreTimerExpiry
  · subst hc
    exact restoreTimerExpiry law h ht
  · obtain he | ⟨-, he⟩ | ⟨-, time, -, he⟩ := exec_cases c s <;> cases he.symm.trans ht
    · exact h
    · exact ownEffect law h hc
    · exact finish law (ownEffect law (begun law h time) hc)

theorem step {t : State} (ht : Machine.step s = .next t) : P t := by
  unfold Machine.step at ht
  split at ht
  case h_1 =>
    cases ht
    exact h
  case h_2 rest _ => exact exec law (s := { s with pending := rest }) (law.still h rfl) ht

end KeptByDrivesAndSets

/-! ## The laws -/

theorem Deu.reset_slotLent {s : State} (h : s.deu = .reset) : SlotLent s := by
  refine ⟨by rw [h]; exact List.nodup_nil, fun d => ?_⟩
  rw [h]
  cases d <;> exact ⟨nofun, by simp [Deu.reset, PerDrive.get, DriveRec.reset], fun hp => absurd rfl hp, fun _ => rfl,
    nofun⟩

theorem slotLent_kept : KeptByDrivesAndSets SlotLent where
  still h e := by
    have deu := congrArg Prod.fst e
    simp only [State.drivesAndSets] at deu
    unfold SlotLent at h ⊢
    rwa [deu]
  drives := State.deuTakes_slotLent
  pumps _ h := h
  authority _ h := h
  reset _ _ _ _ := Deu.reset_slotLent rfl

theorem setsDistinct_kept : KeptByDrivesAndSets SetsDistinct where
  still h e := by
    obtain ⟨-, hsets⟩ := Prod.mk.inj e
    obtain ⟨ppu, tau⟩ := Prod.mk.inj hsets
    unfold SetsDistinct at h ⊢
    rwa [ppu, tau]
  drives _ h := h
  pumps := by
    intro s body hbody ⟨alarms, cuts⟩
    exact ⟨alarmsAfter_nodup _ ((hbody { ppu := s.ppu }).symm ▸ alarms), cuts⟩
  authority hbody h := ⟨h.1, hbody _ h.2⟩
  reset _ _ _ _ := ⟨List.nodup_nil, List.nodup_nil⟩

/-- The slot is lent to one drive at a time, so one drive at a time is in SHIFTING or RELEASING (R68). -/
theorem slotLent_exclusive {s : State} (h : SlotLent s) :
    ¬ ((s.deu.drives.main.state = .shifting ∨ s.deu.drives.main.state = .releasing) ∧
       (s.deu.drives.aux.state = .shifting ∨ s.deu.drives.aux.state = .releasing)) := by
  rintro ⟨main, aux⟩
  obtain ⟨lent, -⟩ := (slotLent_iff s).1 h
  have holds {r : DriveRec} (hr : r.state = .shifting ∨ r.state = .releasing) : holdsSlot r = true := by
    obtain hr | hr := hr <;> simp [holdsSlot, hr]
  obtain ⟨toMain, -⟩ := lent.underWay .main (holds main)
  obtain ⟨toAux, -⟩ := lent.underWay .aux (holds aux)
  cases toMain.symm.trans toAux

/-- Settles O11: the events of the three units keep their laws, and no other event touches them. -/
theorem stepKeepsTheSlotLentAndTheSetsDistinct : Obligations.StepKeepsTheSlotLentAndTheSetsDistinct :=
  ⟨fun _ _ h ht => ⟨slotLent_kept.step h ht, slotLent_exclusive (slotLent_kept.step h ht)⟩,
    fun _ _ h ht => setsDistinct_kept.step h ht⟩

end Sys2Proof.Machine

end


section
/-! PROOFS. The drives' timer expiries. -/

namespace Sys2Proof.Machine

open Sys2Proof.Safety

/-! ## How a drive stands at the end of an event (R69) -/

/-- A drive stands in the unit as the work gives it, and its outputs are commanded by its record. -/
structure Stands (d : Drive) (w : DeuWork) (u : Deu) : Prop where
  drive : u.drives.get d = w.drive d
  waits : d ∈ u.waiting ↔ d ∈ w.deu.waiting
  holds : u.holder = some d ↔ w.deu.holder = some d
  main : d = .main →
    u.do0 = (decide ((w.drive d).state = .shifting) && decide ((w.drive d).phase = .driving)) ∧
    u.do1 = (decide ((w.drive d).state = .releasing) && decide ((w.drive d).phase = .driving) ||
      decide ((w.drive d).state = .faulted) && decide ((w.drive d).phase = .restore))
  aux : d = .aux →
    u.do2 = (decide ((w.drive d).state = .shifting) && decide ((w.drive d).phase = .driving) ||
      (w.drive d).state.turning || decide ((w.drive d).state = .faulted) && w.deu.do2)

theorem Spares.stands {d : Drive} {w w' : DeuWork} (h : Spares d w w') : Stands d w (deuOutputs w'.deu) where
  drive := h.drive
  waits := h.waits
  holds := h.holds
  main hd := by
    subst hd
    rw [← h.drive]
    exact ⟨rfl, rfl⟩
  aux hd := by
    subst hd
    rw [← h.drive, ← h.clutch rfl]
    rfl

/-- A drive that the body leaves out of the waiting list stands as the body left it. -/
theorem State.deuTakes_stands {s : State} {body : DeuWork → DeuWork} (hbody : DeuBody s body) (h : SlotLent s)
    (adopted : s.deu.adopted = true) {d : Drive} {w : DeuWork} (hw : body s.deuWork = w)
    (hd : d ∉ w.deu.waiting) : Stands d w (s.deuTakes body).deu := by
  have lent := hbody.lent h
  rw [State.deuTakes_deu]
  rw [adopt_of_adopted adopted, hw] at lent ⊢
  exact (slotOffered_spares s lent hd).stands

/-! ## What an event hands over (R90, R92) -/

section
variable {s : State}

theorem State.deuCommit_cuts {w : DeuWork} {c : SetOp Cut} (h : c ∈ w.cuts) :
    (Block.tau, Event.cuts w.cuts) ∈ (s.deuCommit w).agenda := by
  rw [State.deuCommit_agenda]
  simp [deuOut, mem_unlessEmpty, List.ne_nil_of_mem h]

theorem State.deuCommit_alarms {w : DeuWork} {op : SetOp AlarmCause} (h : op ∈ lastingOps w.alarms) :
    (Block.ppu, Event.alarms (lastingOps w.alarms)) ∈ (s.deuCommit w).agenda := by
  rw [State.deuCommit_agenda]
  simp [deuOut, mem_unlessEmpty, List.ne_nil_of_mem h]

theorem State.deuCommit_records {w : DeuWork} {r : RecordBody} (h : r ∈ w.records) :
    (Block.drc, Event.records (mainFirst w.records)) ∈ (s.deuCommit w).agenda := by
  rw [State.deuCommit_agenda]
  simp [deuOut, mem_unlessEmpty, List.ne_nil_of_mem ((mem_mainFirst r _).2 h)]

end

/-! What the body hands over reaches its block, whatever the offer of the slot adds. -/

section
variable {s : State} {body : DeuWork → DeuWork} {w : DeuWork} (hw : body (adopt s s.deuWork) = w)
include hw

theorem State.deuTakes_cut {c : SetOp Cut} (h : c ∈ w.cuts) :
    ∃ cuts, (Block.tau, Event.cuts cuts) ∈ (s.deuTakes body).agenda ∧ c ∈ cuts := by
  have mem : c ∈ (deuRun s body).cuts := (slotOffered_goesOn s _).cuts (hw ▸ h)
  exact ⟨_, State.deuCommit_cuts mem, mem⟩

theorem State.deuTakes_record {r : RecordBody} (h : r ∈ w.records) :
    ∃ bodies, (Block.drc, Event.records bodies) ∈ (s.deuTakes body).agenda ∧ r ∈ bodies := by
  have mem : r ∈ (deuRun s body).records := (slotOffered_goesOn s _).records (hw ▸ h)
  exact ⟨_, State.deuCommit_records mem, (mem_mainFirst r _).2 mem⟩

theorem State.deuTakes_withdrawal {c : AlarmCause} (h : .withdraw c ∈ w.alarms) :
    ∃ ops, (Block.ppu, Event.alarms ops) ∈ (s.deuTakes body).agenda ∧ .withdraw c ∈ ops := by
  have mem : .withdraw c ∈ (deuRun s body).alarms := (slotOffered_goesOn s _).alarms (hw ▸ h)
  have handed := (withdraw_mem_lastingOps c _).2 mem
  exact ⟨_, State.deuCommit_alarms handed, handed⟩

/-- The post of a drive's cause that the body does not withdraw, where the drive does not wait for the slot. -/
theorem State.deuTakes_post {d : Drive} {c : AlarmCause} (h : .post c ∈ w.alarms) (hc : c.drive = some d)
    (lasts : .withdraw c ∉ w.alarms) (spared : Spares d w (slotOffered s w)) :
    ∃ ops, (Block.ppu, Event.alarms ops) ∈ (s.deuTakes body).agenda ∧ .post c ∈ ops := by
  subst hw
  have lasting : .withdraw c ∉ (deuRun s body).alarms := fun h => lasts (spared.causes c hc h)
  have mem : .post c ∈ (deuRun s body).alarms := (slotOffered_goesOn s _).alarms h
  have handed := (post_mem_lastingOps lasting).2 mem
  exact ⟨_, State.deuCommit_alarms handed, handed⟩

end

/-- A post that an event withdraws behind it is not handed over (R90; log entry 46). -/
theorem post_not_mem_lastingOps {c : AlarmCause} {ys : List (SetOp AlarmCause)} (hw : .withdraw c ∈ ys)
    (hp : .post c ∉ ys) (xs : List (SetOp AlarmCause)) : .post c ∉ lastingOps (xs ++ ys) := by
  have handed (ops : List (SetOp AlarmCause)) : ∀ op ∈ lastingOps ops, op ∈ ops := by
    induction ops with
    | nil => exact fun _ h => h
    | cons op rest ih =>
      cases op with
      | withdraw b =>
        rw [lastingOps]
        exact List.forall_mem_cons.2 ⟨.head _, fun op h => .tail _ (ih op h)⟩
      | post b =>
        rw [lastingOps]
        split
        · exact fun op h => .tail _ (ih op h)
        · exact List.forall_mem_cons.2 ⟨.head _, fun op h => .tail _ (ih op h)⟩
  induction xs with
  | nil => exact fun h => hp (handed _ _ h)
  | cons op rest ih =>
    cases op with
    | withdraw b => simpa [lastingOps] using ih
    | post b =>
      by_cases hb : SetOp.withdraw b ∈ rest ++ ys
      · simpa only [List.cons_append, lastingOps, List.contains_iff_mem, hb, if_true] using ih
      · have hne : c ≠ b := fun e => hb (e ▸ List.mem_append_right _ hw)
        simp only [List.cons_append, lastingOps, List.contains_iff_mem, hb, if_false, List.mem_cons,
          SetOp.post.injEq, hne, false_or]
        exact ih

/-! The posts, withdrawals and records of an operation. -/

/-- The causes of a drive that leaves ROLLING are withdrawn (R84, R90). -/
def rollWithdrawals (d : Drive) (r : DriveRec) : List (SetOp AlarmCause) :=
  (if d = .aux ∧ r.overspeedPosted then [.withdraw .rollOverspeed] else []) ++
    (if d = .aux ∧ r.selectPosted then [.withdraw .rollWithoutSelect] else [])

section
variable (s : State) (d : Drive) (w : DeuWork)

@[simp] theorem DeuWork.setRec_alarms (r : DriveRec) : (w.setRec d r).alarms = w.alarms := rfl
@[simp] theorem DeuWork.setRec_records (r : DriveRec) : (w.setRec d r).records = w.records := rfl

@[simp] theorem freeSlot_alarms : (freeSlot d w).alarms = w.alarms := by
  unfold freeSlot
  split <;> rfl

@[simp] theorem freeSlot_records : (freeSlot d w).records = w.records := by
  unfold freeSlot
  split <;> rfl

@[simp] theorem releasesClutch_alarms (p : Prop) [Decidable p] :
    (if p then clutch false w else w).alarms = w.alarms := by
  split <;> rfl

@[simp] theorem releasesClutch_records (p : Prop) [Decidable p] :
    (if p then clutch false w else w).records = w.records := by
  split <;> rfl

theorem dropRollDemands_alarms : (dropRollDemands d w).alarms = w.alarms ++ rollWithdrawals d (w.drive d) := by
  unfold dropRollDemands rollWithdrawals
  dsimp only [DeuWork.setRec]
  split <;> split <;> simp

theorem dropRollDemands_records : (dropRollDemands d w).records = w.records := by
  unfold dropRollDemands
  dsimp only [DeuWork.setRec]
  split <;> split <;> rfl

theorem enterReleasing_alarms : (enterReleasing s d w).alarms = w.alarms ++ rollWithdrawals d (w.drive d) := by
  refine (dropRollDemands_alarms d _).trans ?_
  rw [DeuWork.setRec_drive, leave_drive]
  rfl

theorem enterFaulted_alarms (k : FaultKind) (restore : Bool) : (enterFaulted s d k restore w).alarms =
    w.alarms ++ rollWithdrawals d (w.drive d) ++ [.post (.driveFault d)] := by
  have dropped : (dropRollDemands d (leave d w)).alarms = w.alarms ++ rollWithdrawals d (w.drive d) := by
    rw [dropRollDemands_alarms, leave_drive]
    rfl
  unfold enterFaulted
  cases restore <;> simp [dropped]

theorem enterFaulted_records (k : FaultKind) (restore : Bool) : (enterFaulted s d k restore w).records =
    w.records ++ [.driveFault d k (w.drive d).state (s.positionCode d)] := by
  have dropped : (dropRollDemands d (leave d w)).records = w.records := dropRollDemands_records d _
  unfold enterFaulted
  cases restore <;> simp [dropped]

/-- A fault posts its cause, and withdraws none of that kind (R87). -/
theorem post_mem_enterFaulted (k : FaultKind) (restore : Bool) :
    .post (.driveFault d) ∈ (enterFaulted s d k restore w).alarms := by
  simp [enterFaulted_alarms]

theorem withdraw_mem_enterFaulted (e : Drive) (k : FaultKind) (restore : Bool) :
    .withdraw (.driveFault e) ∈ (enterFaulted s d k restore w).alarms ↔ .withdraw (.driveFault e) ∈ w.alarms := by
  have roll : .withdraw (.driveFault e) ∉ rollWithdrawals d (w.drive d) := by simp [rollWithdrawals]
  simp [enterFaulted_alarms, roll]

end

end Sys2Proof.Machine

end


section
/-! PROOFS. The drives' timer expiries, by the timers. -/

namespace Sys2Proof.Machine

open Sys2Proof.Safety

/-! ## The commands -/

/-- Only the Drive Engagement Unit acts. -/
theorem othersKept_deu (s : State) (now : Micros) (deu : Deu) (lnk : Lnk) (agenda : List (Block × Event)) :
    OthersKept .deu s
      { s with now := now, deu := deu, lnk := lnk, agenda := agenda, port := s.port.serve } :=
  ⟨fun _ => rfl, fun _ => rfl, fun _ => rfl, fun h => absurd rfl h, fun _ => rfl, fun _ => rfl, fun _ => rfl,
    fun _ => rfl, fun _ => rfl, fun _ _ => rfl, rfl, rfl, rfl⟩

theorem State.deuTakes_acts (s : State) (time : Micros) (body : DeuWork → DeuWork) :
    Acts .deu time s ((s.beginAt time).deuTakes body) :=
  ⟨rfl, othersKept_deu s _ _ _ _, noticesOnly_posts _ _ _⟩

section
variable {s : State} {d : Drive} {due : Micros}

theorem State.seqTimer_running {p : SeqPurpose} (purpose : (s.deu.drives.get d).seqPurpose = some p)
    (running : (s.deu.drives.get d).seq = .running due) : s.seqTimer d p = .running due :=
  (if_pos purpose).trans running

theorem exec_permissiveTimerExpiry (purpose : (s.deu.drives.get d).seqPurpose = some .permissive)
    (running : (s.deu.drives.get d).seq = .running due) : exec (.permissiveTimerExpiry d) s =
      .next ((s.beginAt (max s.now due)).deuTakes (bodyPermissiveExpired d)).finish :=
  atExpiry_running (State.seqTimer_running purpose running) (fun s => s.deuTakes (bodyPermissiveExpired d)) s

theorem exec_confirmTimerExpiry (purpose : (s.deu.drives.get d).seqPurpose = some .confirm)
    (running : (s.deu.drives.get d).seq = .running due) : exec (.confirmTimerExpiry d) s =
      .next ((s.beginAt (max s.now due)).deuTakes (bodyConfirmExpired (s.beginAt (max s.now due)) d)).finish :=
  atExpiry_running (State.seqTimer_running purpose running) (fun s => s.deuTakes (bodyConfirmExpired s d)) s

theorem exec_retryOffExpiry (purpose : (s.deu.drives.get d).seqPurpose = some .retryOff)
    (running : (s.deu.drives.get d).seq = .running due) : exec (.retryOffExpiry d) s =
      .next ((s.beginAt (max s.now due)).deuTakes (bodyRetryOffExpired (s.beginAt (max s.now due)) d)).finish :=
  atExpiry_running (State.seqTimer_running purpose running) (fun s => s.deuTakes (bodyRetryOffExpired s d)) s

theorem exec_restoreTimerExpiry (purpose : s.deu.drives.main.seqPurpose = some .restore)
    (running : s.deu.drives.main.seq = .running due) : exec .restoreTimerExpiry s =
      .next ((s.beginAt (max s.now due)).deuTakes endRestore).finish :=
  atExpiry_running (State.seqTimer_running (d := .main) purpose running) (fun s => s.deuTakes endRestore) s

theorem exec_idleTimerExpiry (purpose : (s.deu.drives.get d).seqPurpose = some .idle)
    (running : (s.deu.drives.get d).seq = .running due) : exec (.idleTimerExpiry d) s =
      .next ((s.beginAt (max s.now due)).deuTakes (bodyIdleExpired (s.beginAt (max s.now due)) d)).finish :=
  atExpiry_running (State.seqTimer_running purpose running) (fun s => s.deuTakes (bodyIdleExpired s d)) s

theorem exec_overspeedTimerExpiry (running : s.deu.drives.aux.overspeed = .running due) :
    exec .overspeedTimerExpiry s = .next ((s.beginAt (max s.now due)).deuTakes bodyOverspeedExpired).finish :=
  atExpiry_running running (fun s => s.deuTakes bodyOverspeedExpired) s

/-- The three monitors whose expiry is a fault (R82, R85, R86). -/
theorem exec_monitorExpiry {c : Instr} {k : FaultKind}
    (h : c = .positionTimerExpiry d ∧ k = .positionLost ∧ (s.deu.drives.get d).position = .running due ∨
      c = .slipTimerExpiry d ∧ k = .slip ∧ (s.deu.drives.get d).slip = .running due ∨
      c = .stallTimerExpiry d ∧ k = .slip ∧ (s.deu.drives.get d).stall = .running due) :
    exec c s =
      .next ((s.beginAt (max s.now due)).deuTakes (bodyMonitorFault (s.beginAt (max s.now due)) d k)).finish := by
  obtain ⟨rfl, rfl, running⟩ | ⟨rfl, rfl, running⟩ | ⟨rfl, rfl, running⟩ := h
  · exact atExpiry_running running (fun s => s.deuTakes (bodyMonitorFault s d .positionLost)) s
  · exact atExpiry_running running (fun s => s.deuTakes (bodyMonitorFault s d .slip)) s
  · exact atExpiry_running running (fun s => s.deuTakes (bodyMonitorFault s d .slip)) s

end

/-- A timer that a droop suspends starts suspended while the supply is not NORMAL (R88). -/
theorem startSeq_seq {p : SeqPurpose} (hp : suspendable p = true) (s : State) (duration : Micros) (r : DriveRec) :
    (startSeq s p duration r).seq =
      if s.pfu.supply = .normal then .running (s.now + duration) else .suspended duration := by
  by_cases h : s.pfu.supply = .normal <;> simp [startSeq, hp, State.supplyNormal, h, Timer.started]

/-! ## The bodies -/

section
variable {s : State} {d : Drive} {w : DeuWork}

/-- The retry of a shift, or of MAIN's unshift, is unspent (R72, R73, R78). -/
theorem bodyConfirmExpired_unspent (hs : (w.drive d).state = .shifting ∨ (w.drive d).state = .releasing)
    (h : (w.drive d).retryUsed = false ∧ ((w.drive d).state = .shifting ∨ d = .main)) :
    bodyConfirmExpired s d w = startOffTime s d w := by
  obtain ⟨retry, h⟩ := h
  by_cases shifting : (w.drive d).state = .shifting
  · simp only [bodyConfirmExpired, shifting, retry]
  · obtain rfl := h.resolve_left shifting
    simp only [bodyConfirmExpired, hs.resolve_left shifting, retry]

/-- The retry is spent, or AUX's unshift has none: a MAIN that was SHIFTING is driven back to road (R72, R73, R75,
R78, R79). -/
theorem bodyConfirmExpired_spent (hs : (w.drive d).state = .shifting ∨ (w.drive d).state = .releasing)
    (h : ¬ ((w.drive d).retryUsed = false ∧ ((w.drive d).state = .shifting ∨ d = .main))) :
    bodyConfirmExpired s d w =
      enterFaulted s d .noConfirm (decide ((w.drive d).state = .shifting ∧ d = .main)) w := by
  obtain hs | hs := hs
  · have retry : (w.drive d).retryUsed = true := by simpa [hs] using h
    cases d <;> simp [bodyConfirmExpired, hs, retry]
  · cases d with
    | main =>
      have retry : (w.drive .main).retryUsed = true := by simpa using h
      simp [bodyConfirmExpired, hs, retry]
    | aux => simp [bodyConfirmExpired, hs]

end

/-! ## The outputs of a drive under way and of a faulted one (R69, R87) -/

section
variable {d : Drive} {w : DeuWork} {u : Deu} (h : Stands d w u)
include h

theorem Stands.outputs_underWay {st : DriveState} (state : (w.drive d).state = st)
    (hs : st = .shifting ∨ st = .releasing) {on : Bool} (phase : decide ((w.drive d).phase = .driving) = on) :
    (d = .main → u.do0 = (on && decide (st = .shifting)) ∧ u.do1 = (on && decide (st = .releasing))) ∧
      (d = .aux → u.do2 = (on && decide (st = .shifting))) := by
  refine ⟨fun hd => ?_, fun hd => ?_⟩
  · obtain ⟨do0, do1⟩ := h.main hd
    rw [do0, do1, state, phase]
    obtain rfl | rfl := hs <;> simp
  · rw [h.aux hd, state, phase]
    obtain rfl | rfl := hs <;> simp [DriveState.turning]

theorem Stands.outputs_faulted (state : (w.drive d).state = .faulted) (phase : (w.drive d).phase = .none) :
    (d = .main → u.do0 = false ∧ u.do1 = false) ∧ (d = .aux → u.do2 = w.deu.do2) := by
  refine ⟨fun hd => ?_, fun hd => ?_⟩
  · obtain ⟨do0, do1⟩ := h.main hd
    rw [do0, do1, state, phase]
    exact ⟨rfl, rfl⟩
  · rw [h.aux hd, state, phase]
    rfl

end

/-- Settles O30: by the timer and by whether the retry is spent; the drive holds the slot and so does not wait, and
stands as the body leaves it. -/
theorem confirmAndRetryOffExpiriesComplete : Obligations.ConfirmAndRetryOffExpiriesComplete := by
  intro d s due h time r starts outputs hs running
  let s' := s.beginAt time
  obtain ⟨lent, -⟩ := (slotLent_iff s).1 h
  have adopted : s.deu.adopted = true := slotLent_adopted h (d := d) (by obtain hs | hs := hs <;> simp [r, hs])
  have underWay : holdsSlot (s.deuWork.drive d) = true := by
    obtain hs | hs := hs <;> simp [holdsSlot, State.deuWork, DeuWork.drive, r, hs]
  obtain ⟨holder, -, waiting⟩ := lent.underWay d underWay
  refine ⟨fun purpose => ⟨_, exec_confirmTimerExpiry purpose running, State.deuTakes_acts .., ?_⟩,
    fun purpose => ⟨_, exec_retryOffExpiry purpose running, State.deuTakes_acts .., ?_⟩⟩
  case _ =>
    split
    case isTrue unspent =>
      have body := bodyConfirmExpired_unspent (s := s') (d := d) (w := s'.deuWork) hs unspent
      have stands := State.deuTakes_stands (s := s') (.confirm d) h adopted body waiting
      have record : (startOffTime s' d s'.deuWork).drive d =
          { startSeq s' .retryOff retryOffTime r with phase := .off, retryUsed := true } := DeuWork.setRec_drive ..
      have state : ((startOffTime s' d s'.deuWork).drive d).state = r.state := by rw [record]; rfl
      have outputs := stands.outputs_underWay state hs (on := false) (by rw [record]; rfl)
      rw [stands.drive, record]
      exact ⟨rfl, rfl, rfl, rfl, startSeq_seq rfl s' _ r, stands.holds.2 holder, outputs⟩
    case isFalse spent =>
      have body : bodyConfirmExpired s' d s'.deuWork =
          enterFaulted s' d .noConfirm (decide (r.state = .shifting ∧ d = .main)) s'.deuWork :=
        bodyConfirmExpired_spent hs spent
      have stands := State.deuTakes_stands (s := s') (.confirm d) h adopted (d := d) body (by simp)
      rw [stands.drive, enterFaulted_drive]
      by_cases restores : r.state = .shifting ∧ d = .main
      · rw [decide_eq_true restores] at stands ⊢
        rw [if_pos restores]
        obtain ⟨-, rfl⟩ := restores
        obtain ⟨do0, do1⟩ := stands.main rfl
        rw [enterFaulted_drive] at do0 do1
        exact ⟨rfl, rfl, rfl, rfl, rfl, startSeq_seq rfl s' _ _, stands.holds.2 ((enterFaulted_holder ..).2 ⟨holder, .inl rfl⟩),
          do0, do1⟩
      · rw [decide_eq_false restores] at stands ⊢
        rw [if_neg restores]
        have slot : ((s.beginAt time).deuTakes (bodyConfirmExpired s' d)).deu.holder ≠ some d := fun e => by
          simpa using stands.holds.1 e
        have clutch : d = .aux → (enterFaulted s' d .noConfirm false s'.deuWork).deu.do2 = false := fun hd => by
          rw [enterFaulted_do2, if_pos ⟨hd, by simp [keepsClutch]⟩]
        obtain ⟨main, aux⟩ := stands.outputs_faulted (by rw [enterFaulted_drive]; rfl) (by rw [enterFaulted_drive]; rfl)
        exact ⟨rfl, rfl, rfl, rfl, rfl, slot, main, fun hd => (aux hd).trans (clutch hd)⟩
  case _ =>
    have stands := State.deuTakes_stands (s := s') (.retryOff d) h adopted rfl waiting
    have record : (bodyRetryOffExpired s' d s'.deuWork).drive d =
        { startSeq s' .confirm (s'.confirmTime d) r with phase := .driving } := DeuWork.setRec_drive ..
    have state : ((bodyRetryOffExpired s' d s'.deuWork).drive d).state = r.state := by rw [record]; rfl
    have outputs := stands.outputs_underWay state hs (on := true) (by rw [record]; rfl)
    rw [stands.drive, record]
    exact ⟨rfl, rfl, rfl, rfl, startSeq_seq rfl s' _ r, stands.holds.2 holder, outputs⟩

/-! ## A drive faulted by an expiry (R82, R85 to R87) -/

section
variable {s : State} (h : SlotLent s)
include h

/-- A DEU event of an adopted unit that comes to a fault of a drive that is not driven back to road. -/
theorem State.deuTakes_faulted (adopted : s.deu.adopted = true) {body : DeuWork → DeuWork} (hbody : DeuBody s body)
    {d : Drive} {k : FaultKind} (hw : body s.deuWork = enterFaulted s d k false s.deuWork) :
    Stands d (enterFaulted s d k false s.deuWork) (s.deuTakes body).deu ∧
      (s.deuTakes body).deu.drives.get d = (s.deu.drives.get d).faulted s d k false ∧
      d ∉ (s.deuTakes body).deu.waiting := by
  have stands := State.deuTakes_stands hbody h adopted hw (d := d) (by simp)
  exact ⟨stands, stands.drive.trans (enterFaulted_drive ..), fun hd => by simpa using stands.waits.1 hd⟩

end

/-- An AUX that turns its pump keeps its clutch through these faults (R87). -/
theorem Stands.clutch_kept {s : State} (hout : deuOutputs s.deu = s.deu) {k : FaultKind} {u : Deu}
    (h : Stands .aux (enterFaulted s .aux k false s.deuWork) u)
    (turning : (s.deu.drives.get .aux).state.turning = true)
    (hk : k = .positionLost ∨ k = .slip ∨ k = .noIdle) : u.do2 = true := by
  have before : s.deu.do2 = true := by
    rw [← hout]
    have turning' : s.deu.drives.aux.state.turning = true := turning
    simp [deuOutputs, turning']
  have keeps : keepsClutch (s.deuWork.drive .aux).state k = true := by
    have turning' : (s.deuWork.drive .aux).state.turning = true := turning
    obtain rfl | rfl | rfl := hk <;> simp [keepsClutch, turning']
  obtain ⟨-, aux⟩ := h.outputs_faulted (by rw [enterFaulted_drive]; rfl) (by rw [enterFaulted_drive]; rfl)
  rw [aux rfl, enterFaulted_do2, if_neg (by simp [keeps])]
  exact before

/-- A drive with a release pending has adopted its state. -/
theorem slotLent_adopted_of_pending {s : State} (h : SlotLent s) {d : Drive}
    (hp : (s.deu.drives.get d).pendingRelease ≠ .none) : s.deu.adopted = true := by
  obtain ⟨lent, -⟩ := (slotLent_iff s).1 h
  refine slotLent_adopted h (d := d) fun disengaged => ?_
  obtain turning | faulted := (lent.drive d).pending hp
  · rw [State.deuWork, DeuWork.drive, disengaged] at turning
    cases turning
  · cases disengaged.symm.trans faulted

/-- Settles O31: each of the three bodies leaves its drive out of the waiting list, so the drive stands as the body
leaves it. -/
theorem permissiveRestoreAndIdleExpiriesComplete : Obligations.PermissiveRestoreAndIdleExpiriesComplete := by
  intro s due h hout
  let s' := s.beginAt (max s.now due)
  refine ⟨fun d state purpose running => ?permissive, fun state phase purpose running => ?restore,
    fun d pending purpose running => ?idle⟩
  case permissive =>
    have adopted : s.deu.adopted = true := slotLent_adopted h (d := d) (by simp [state])
    have body : bodyPermissiveExpired d s'.deuWork = enterIdle d .permissiveTimeout s'.deuWork := if_pos state
    have stands := State.deuTakes_stands (s := s') (.permissive d) h adopted body (d := d) (by simp)
    refine ⟨_, exec_permissiveTimerExpiry purpose running, State.deuTakes_acts .., ?_⟩
    rw [stands.drive, enterIdle_drive]
    exact ⟨rfl, rfl, rfl, rfl, fun hd => by simpa using stands.waits.1 hd⟩
  case restore =>
    obtain ⟨lent, -⟩ := (slotLent_iff s).1 h
    have faulted : (s'.deuWork.drive .main).state = .faulted := state
    have adopted : s.deu.adopted = true := slotLent_adopted h (d := .main) (by simp [PerDrive.get, state])
    obtain ⟨-, -, waiting⟩ := lent.underWay .main (by
      have restoring : holdsSlot s.deu.drives.main = true := by simp [holdsSlot, state, phase]
      exact restoring)
    have stands := State.deuTakes_stands (s := s') (.restored purpose) h adopted rfl (d := .main)
      (by rw [endRestore, freeSlot_waiting]; exact waiting)
    have record : (endRestore s'.deuWork).drive .main = { stopSeq s.deu.drives.main with phase := .none } :=
      (freeSlot_drive ..).trans (DeuWork.setRec_drive ..)
    obtain ⟨main, -⟩ := stands.outputs_faulted (by rw [record]; exact state) (by rw [record])
    refine ⟨_, exec_restoreTimerExpiry purpose running, State.deuTakes_acts .., ?_⟩
    have drive : (s'.deuTakes endRestore).deu.drives.main = { stopSeq s.deu.drives.main with phase := .none } :=
      stands.drive.trans record
    rw [drive]
    exact ⟨state, rfl, rfl, rfl, (main rfl).2, fun e => by simpa [endRestore] using stands.holds.1 e⟩
  case idle =>
    have adopted := slotLent_adopted_of_pending h (d := d) (by simp [pending])
    have body : bodyIdleExpired s' d s'.deuWork = enterFaulted s' d .noIdle false s'.deuWork := if_pos pending
    obtain ⟨stands, record, waiting⟩ := State.deuTakes_faulted (s := s') h adopted (.idle d) body
    refine ⟨_, exec_idleTimerExpiry purpose running, State.deuTakes_acts .., ?_⟩
    rw [record]
    refine ⟨rfl, rfl, rfl, rfl, waiting, rfl, rfl, rfl, rfl, rfl, fun hd turning => ?_⟩
    subst hd
    exact stands.clutch_kept (s := s') hout turning (.inr (.inr rfl))

/-- Settles O32: the fault's record stands, and its post and its record are handed over. -/
theorem monitorExpiriesFaultTheDrive : Obligations.MonitorExpiriesFaultTheDrive := by
  intro d s due c k h hout turning hc
  let s' := s.beginAt (max s.now due)
  have hk : k = .positionLost ∨ k = .slip ∨ k = .noIdle := by
    obtain ⟨-, rfl, -⟩ | ⟨-, rfl, -⟩ | ⟨-, rfl, -⟩ := hc <;> simp
  have adopted : s.deu.adopted = true := slotLent_adopted h (d := d) fun hd => by
    rw [hd] at turning
    cases turning
  have body : bodyMonitorFault s' d k s'.deuWork = enterFaulted s' d k false s'.deuWork := if_pos turning
  obtain ⟨stands, record, waiting⟩ := State.deuTakes_faulted (s := s') h adopted (.monitor d k) body
  refine ⟨_, exec_monitorExpiry hc, State.deuTakes_acts .., ?_⟩
  rw [record]
  refine ⟨rfl, rfl, rfl, rfl, rfl, rfl, rfl, rfl, rfl, waiting, rfl, fun hd => ?_, ?_⟩
  · subst hd
    exact stands.clutch_kept (s := s') hout turning hk
  · have lent := DeuBody.lent (s := s') (.monitor d k) h
    rw [adopt_of_adopted (s := s') adopted, body] at lent
    have work : bodyMonitorFault s' d k (adopt s' s'.deuWork) = enterFaulted s' d k false s'.deuWork := by
      rw [adopt_of_adopted (s := s') adopted, body]
    obtain ⟨ops, hops, posted⟩ := State.deuTakes_post work (post_mem_enterFaulted ..) (d := d) rfl
      (by simp [withdraw_mem_enterFaulted, State.deuWork]) (slotOffered_spares s' lent (by simp))
    obtain ⟨bodies, hbodies, recorded⟩ := State.deuTakes_record work
      (r := .driveFault d k (s.deu.drives.get d).state (s.positionCode d)) (by rw [enterFaulted_records]; exact .head _)
    exact ⟨ops, bodies, hops, posted, hbodies, recorded⟩

end Sys2Proof.Machine

end


section
/-! PROOFS. The overspeed timer, ENGAGE_DRIVE, RELEASE_DRIVE and the inputs. -/

namespace Sys2Proof.Machine

open Sys2Proof.Safety

/-! ## The overspeed timer (R84) -/

/-- The record of an AUX whose overspeed is posted. -/
def DriveRec.overspeedFound (r : DriveRec) : DriveRec := { r with overspeed := .stopped, overspeedPosted := true }

theorem bodyOverspeedExpired_new {w : DeuWork} (h : (w.drive .aux).overspeedPosted = false) :
    bodyOverspeedExpired w = { w.setRec .aux (w.drive .aux).overspeedFound with
      cuts := w.cuts ++ [.post .rollOverspeed], alarms := w.alarms ++ [.post .rollOverspeed] } := by
  simp [bodyOverspeedExpired, h, DriveRec.overspeedFound]

/-! What the idle test leaves of a record (R77). -/

section
variable (s : State) (r : DriveRec)

theorem DriveRec.testedForIdle_state : (r.testedForIdle s).state = r.state := by
  unfold testedForIdle
  split <;> rfl

theorem DriveRec.testedForIdle_overspeedPosted : (r.testedForIdle s).overspeedPosted = r.overspeedPosted := by
  unfold testedForIdle
  split <;> rfl

end

/-- Settles O33: AUX waits on, or the slot is granted to its release in the same event. -/
theorem overspeedExpiryPosts : Obligations.OverspeedExpiryPosts := by
  intro s due h running rolling unposted
  let s' := s.beginAt (max s.now due)
  have adopted : s.deu.adopted = true := slotLent_adopted h (d := .aux) (by simp [PerDrive.get, rolling])
  let w : DeuWork := { s'.deuWork.setRec .aux s.deu.drives.aux.overspeedFound with
    cuts := [.post .rollOverspeed], alarms := [.post .rollOverspeed] }
  have work : bodyOverspeedExpired (adopt s' s'.deuWork) = w := by
    rw [adopt_of_adopted (s := s') adopted]
    exact bodyOverspeedExpired_new unposted
  have record : w.drive .aux = s.deu.drives.aux.overspeedFound := DeuWork.setRec_drive ..
  have unit : (s'.deuTakes bodyOverspeedExpired).deu = deuOutputs (slotOffered s' w).deu := by
    rw [State.deuTakes_deu, work]
  have run : (deuRun s' bodyOverspeedExpired).alarms = (slotOffered s' w).alarms := by rw [deuRun_eq, work]
  obtain ⟨cuts, hcuts, cut⟩ := State.deuTakes_cut work (c := .post .rollOverspeed) (.head _)
  have handed {op : SetOp AlarmCause} (h : op ∈ lastingOps (slotOffered s' w).alarms) :
      (Block.ppu, Event.alarms (lastingOps (slotOffered s' w).alarms)) ∈ (s'.deuTakes bodyOverspeedExpired).agenda :=
    run ▸ State.deuCommit_alarms (s := s') (w := deuRun s' bodyOverspeedExpired) (run ▸ h)
  refine ⟨_, cuts, lastingOps (slotOffered s' w).alarms, exec_overspeedTimerExpiry running, State.deuTakes_acts ..,
    hcuts, cut, ?_⟩
  have turned : (w.drive .aux).state = .rolling := by rw [record]; exact rolling
  obtain spared | ⟨v, spared, goesOn, -, pending, releases⟩ := slotOffered_pending s' (w := w) (d := .aux) (by simp [turned])
  case inl =>
    have waits : (s'.deuTakes bodyOverspeedExpired).deu.drives.aux =
        s.deu.drives.aux.overspeedFound.testedForIdle s' := by
      rw [unit, ← record, ← idleTested_drive]
      exact spared.drive
    have lasting : .withdraw .rollOverspeed ∉ (slotOffered s' w).alarms := fun hw => by
      simpa [w] using spared.causes .rollOverspeed rfl hw
    have posted := (post_mem_lastingOps lasting).2 ((slotOffered_goesOn s' w).alarms (.head _))
    rw [waits]
    refine ⟨handed posted, .inl ⟨?_, ?_, posted⟩, fun none => ?_⟩
    · exact (DriveRec.testedForIdle_state ..).trans rolling
    · exact DriveRec.testedForIdle_overspeedPosted ..
    · exact DriveRec.testedForIdle_of_not_awaiting (by simp [DriveRec.overspeedFound, none]) s'
  case inr =>
    have before : v.drive .aux = s.deu.drives.aux.overspeedFound.testedForIdle s' := by
      rw [spared.drive, idleTested_drive, record]
    have released : (s'.deuTakes bodyOverspeedExpired).deu.drives.aux = (v.drive .aux).releaseStarted s' .aux := by
      rw [unit, releases]
      exact enterReleasing_drive s' .aux v
    have withdrawals : (slotOffered s' w).alarms = v.alarms ++ rollWithdrawals .aux (v.drive .aux) := by
      rw [releases, enterReleasing_alarms]
    have withdrawn : .withdraw .rollOverspeed ∈ rollWithdrawals .aux (v.drive .aux) := by
      rw [before]
      simp [rollWithdrawals, DriveRec.testedForIdle_overspeedPosted, DriveRec.overspeedFound]
    have unposted : .post .rollOverspeed ∉ rollWithdrawals .aux (v.drive .aux) := by simp [rollWithdrawals]
    have withdrawal : .withdraw .rollOverspeed ∈ lastingOps (slotOffered s' w).alarms :=
      (withdraw_mem_lastingOps ..).2 (withdrawals ▸ List.mem_append_right _ withdrawn)
    have pends : s.deu.drives.aux.pendingRelease ≠ .none := fun none => by
      rw [record, DriveRec.testedForIdle_of_not_awaiting (by simp [DriveRec.overspeedFound, none])] at pending
      exact absurd (none.symm.trans pending) nofun
    rw [released]
    exact ⟨handed withdrawal, .inr ⟨rfl, rfl, pends, withdrawal, withdrawals ▸ post_not_mem_lastingOps withdrawn unposted _⟩,
      fun none => absurd none pends⟩

end Sys2Proof.Machine

end


section
/-! PROOFS. ENGAGE_DRIVE and RELEASE_DRIVE. -/

namespace Sys2Proof.Machine

open Sys2Proof.Safety

/-! ## A request of the Drive Engagement Unit (R168, R169) -/

/-- A drive request taken by its unit. -/
def State.deuRequest (s : State) (body : DeuWork → DeuWork) : State :=
  (s.deuTakes body).answerStatus (deuRun s body).status

/-! Adoption reads the inputs, the configuration and the unit, and neither the time nor the link. -/

section
variable {s t : State} (isu : t.isu = s.isu) (w : DeuWork)
include isu

theorem enterFaulted_congr (d : Drive) (k : FaultKind) : enterFaulted t d k false w = enterFaulted s d k false w := by
  have position : t.positionCode d = s.positionCode d := by
    cases d with
    | main => rw [State.positionCode, State.positionCode, isu]
    | aux => rw [State.positionCode, State.positionCode, State.level, State.level, isu]
  simp only [enterFaulted, position]
  rfl

theorem adoptMain_congr : adoptMain t w = adoptMain s w := by
  rw [adoptMain, adoptMain, isu, enterFaulted_congr isu]

theorem adoptAux_congr : adoptAux t w = adoptAux s w := by
  rw [adoptAux, adoptAux, State.level, State.level, isu, enterFaulted_congr isu]

theorem adopt_congr (deu : t.deu = s.deu) (pfu : t.pfu = s.pfu) : adopt t t.deuWork = adopt s s.deuWork := by
  have due : adoptionDue t = adoptionDue s := by rw [adoptionDue, adoptionDue, deu, pfu, isu]
  have work : t.deuWork = s.deuWork := by rw [State.deuWork, State.deuWork, deu]
  cases hdue : adoptionDue s with
  | false => rw [adopt_of_not_due hdue, adopt_of_not_due (due.trans hdue), work]
  | true => rw [adopt_of_due hdue, adopt_of_due (due.trans hdue), work, adoptMain_congr isu, adoptAux_congr isu]

end

/-- The answer is the status that the body gives: the offer of the slot leaves it alone. -/
theorem State.deuRequest_serves (s : State) (time : Micros) (kind tag : Byte) {body : DeuWork → DeuWork} {w : DeuWork}
    {reply : List Byte} (hw : body (adopt s s.deuWork) = w) (h : w.status.bytes = reply) :
    Serves .deu time kind tag (some reply) s ((s.inService time kind tag).deuRequest body) := by
  have status : (deuRun (s.inService time kind tag) body).status = w.status := by
    rw [deuRun_eq, adopt_congr (s := s) (t := s.inService time kind tag) rfl rfl rfl, hw]
    exact (slotOffered_goesOn (s.inService time kind tag) w).status
  rw [← h, ← status]
  exact ⟨rfl, othersKept_deu s _ _ _ _, noticesOnly_answer (noticesOnly_posts _ _ _) _⟩

theorem State.deuRequest_deu (s : State) {body : DeuWork → DeuWork} {w : DeuWork} (hw : body (adopt s s.deuWork) = w) :
    (s.deuRequest body).deu = deuOutputs (slotOffered s w).deu := by
  subst hw
  rfl

/-- A drive byte above 1 names no drive (R190). -/
theorem driveOf_above {b : Byte} (hb : 1 < b.toNat) : driveOf b = none := by
  have zero : b ≠ 0#8 := by rintro rfl; simp at hb
  have one : b ≠ 1#8 := by rintro rfl; simp at hb
  rw [driveOf, if_neg zero, if_neg one]

section
variable {s : State} (h : LinkFree s) (dt : Micros) (tag : Byte) {b : Byte}
include h

theorem exec_engageDrive {d : Drive} (hb : driveOf b = some d) : exec (.engageDrive dt tag b) s =
    .next ((s.inService (s.now + dt) 0x10#8 tag).deuRequest
      (bodyEngage (s.inService (s.now + dt) 0x10#8 tag) d)).finish := by
  have own : State.onDrive (s.inService (s.now + dt) 0x10#8 tag) b (State.engage (s.inService (s.now + dt) 0x10#8 tag)) =
      State.engage (s.inService (s.now + dt) 0x10#8 tag) d := by rw [State.onDrive, hb]
  exact (exec_own (c := .engageDrive dt tag b) rfl h rfl rfl).trans (congrArg (fun u : State => Host.Outcome.next u.finish) own)

theorem exec_releaseDrive {d : Drive} (hb : driveOf b = some d) : exec (.releaseDrive dt tag b) s =
    .next ((s.inService (s.now + dt) 0x11#8 tag).deuRequest
      (bodyRelease (s.inService (s.now + dt) 0x11#8 tag) d)).finish := by
  have own : State.onDrive (s.inService (s.now + dt) 0x11#8 tag) b (State.release (s.inService (s.now + dt) 0x11#8 tag)) =
      State.release (s.inService (s.now + dt) 0x11#8 tag) d := by rw [State.onDrive, hb]
  exact (exec_own (c := .releaseDrive dt tag b) rfl h rfl rfl).trans (congrArg (fun u : State => Host.Outcome.next u.finish) own)

theorem exec_engageDrive_above (hb : 1 < b.toNat) :
    exec (.engageDrive dt tag b) s = .next (s.answered (s.now + dt) 0x10#8 tag [5#8]) := by
  have own (f : Drive → State) : State.onDrive (s.inService (s.now + dt) 0x10#8 tag) b f =
      (s.inService (s.now + dt) 0x10#8 tag).answer [5#8] := by
    rw [State.onDrive, driveOf_above hb]
    rfl
  exact exec_answered h (c := .engageDrive dt tag b) rfl rfl rfl (own _)

theorem exec_releaseDrive_above (hb : 1 < b.toNat) :
    exec (.releaseDrive dt tag b) s = .next (s.answered (s.now + dt) 0x11#8 tag [5#8]) := by
  have own (f : Drive → State) : State.onDrive (s.inService (s.now + dt) 0x11#8 tag) b f =
      (s.inService (s.now + dt) 0x11#8 tag).answer [5#8] := by
    rw [State.onDrive, driveOf_above hb]
    rfl
  exact exec_answered h (c := .releaseDrive dt tag b) rfl rfl rfl (own _)

end

/-! ## ENGAGE_DRIVE (R70) -/

section
variable {s : State} {d : Drive} {w : DeuWork}

theorem DriveRec.requested_seq (r : DriveRec) :
    (r.requested s).seq = .running (s.now + s.driveParams.permWaitS * 1000000) := by
  simp [DriveRec.requested, startSeq, suspendable, Timer.started, sec]

/-- A drive whose shift is asked for waits with its permissive timer started, or is shifted in the same event. -/
theorem slotOffered_engaged (h : (engageAccepted s d w).Lent) (guard : s.effective (startGuard d) = false) {u : Deu}
    (hu : u = deuOutputs (slotOffered s (engageAccepted s d w)).deu) :
    (u.drives.get d = (w.drive d).requested s ∧ d ∈ u.waiting) ∨
      ∃ r : DriveRec, u.drives.get d = r.shiftStarted s d ∧ u.holder = some d ∧ d ∉ u.waiting := by
  subst hu
  obtain spared | ⟨v, -, shifts⟩ := slotOffered_preparing s h (d := d) (by rw [engageAccepted_drive]; rfl) guard
  · exact .inl ⟨spared.drive.trans engageAccepted_drive, spared.waits.2 (mem_engageAccepted_waiting.2 (.inr rfl))⟩
  · rw [shifts]
    exact .inr ⟨v.drive d, enterShifting_drive .., rfl, fun hd => ((mem_enterShifting_waiting s d v).1 hd).2 rfl⟩

/-- Only an ENGAGE_DRIVE that passes every test is answered ACCEPTED (R70). -/
theorem bodyEngage_of_accepted (h : (bodyEngage s d w).status.bytes = [1#8]) :
    s.lku.effect (startGuard d) = none ∧ bodyEngage s d w = engageAccepted s d w := by
  have answer := h
  rw [bodyEngage_status] at answer
  split at answer
  case isTrue => cases answer
  case isFalse loaded =>
  split at answer
  case isTrue => cases answer
  case isFalse applied =>
  split at answer
  case isTrue => cases answer
  case isFalse adopted =>
  split at answer
  case isTrue => cases answer
  case isFalse state =>
  split at answer
  case h_1 => cases answer
  case h_2 guard =>
    have conf : s.pfu.conf = .configured := by
      cases conf : s.pfu.conf with
      | configured => rfl
      | loading => exact absurd (.inl conf) loaded
      | unconfigured => exact absurd (.inr conf) loaded
      | applying => exact absurd conf applied
    exact ⟨guard, bodyEngage_accepted conf (by simpa using adopted) (by simpa using state) guard⟩

end

/-- Settles O34: a status of ACCEPTED is given only where every test passes, and the drive then waits for the slot or
has been granted it. -/
theorem engageDriveCompletes : Obligations.EngageDriveCompletes := by
  intro dt tag b s hfree
  refine ⟨exec_engageDrive_above hfree dt tag, ?_⟩
  intro d hb h w status
  let s' := s.inService (s.now + dt) 0x10#8 tag
  have adopts : adopt s' s'.deuWork = w := adopt_congr rfl rfl rfl
  have answers : (bodyEngage s' d w).status.bytes = status := bodyEngage_status
  refine ⟨_, exec_engageDrive hfree dt tag hb, State.deuRequest_serves s _ _ _ rfl answers, fun accepted => ?_⟩
  obtain ⟨guard, body⟩ := bodyEngage_of_accepted (answers.trans accepted)
  have lent := DeuBody.lent (s := s') (.engage d) h
  rw [adopts, body] at lent
  have effective : s'.effective (startGuard d) = false := by simp [State.effective, guard]
  have unit := State.deuRequest_deu s' (body := bodyEngage s' d) (by rw [adopts, body])
  obtain ⟨record, waits⟩ | ⟨r, record, holder, waiting⟩ := slotOffered_engaged lent effective unit
  · rw [record]
    exact .inl ⟨rfl, rfl, rfl, DriveRec.requested_seq _, waits⟩
  · rw [record]
    exact .inr ⟨rfl, rfl, holder, waiting⟩

/-! ## RELEASE_DRIVE (R76, R77, R80) -/

section
variable {s : State} {d : Drive} {w : DeuWork}

/-- A drive that holds the slot is released at once (R76, R80). -/
theorem Stands.releasing {st : Status} {u : Deu} (h : Stands d { releaseHolding s d w with status := st } u) :
    (u.drives.get d).state = .releasing ∧ (u.drives.get d).cause = some .releaseStarted ∧
      (u.drives.get d).releaseCut = true ∧ u.holder = some d ∧
      (d = .main → u.do0 = false ∧ u.do1 = true) ∧ (d = .aux → u.do2 = false) := by
  have record : (releaseHolding s d w).drive d = ({ w.drive d with releaseCut := true } : DriveRec).releaseStarted s d := by
    rw [releaseHolding, enterReleasing_drive, postRelease_drive]
  have state : ((releaseHolding s d w).drive d).state = .releasing := by rw [record]; rfl
  have outputs := h.outputs_underWay state (.inr rfl) (on := true) (decide_eq_true (congrArg DriveRec.phase record))
  have drive : u.drives.get d = _ := h.drive.trans record
  rw [drive]
  exact ⟨rfl, rfl, rfl, h.holds.2 rfl, outputs⟩

theorem DriveRec.awaitsIdle_tested {r : DriveRec} (h : ((r.awaitsIdle s).testedForIdle s).pendingRelease = .slotWait) :
    s.atIdle = true := by
  unfold testedForIdle at h
  split at h
  case isTrue idle => exact idle.2
  case isFalse => cases h

theorem DriveRec.awaitsIdle_tested_pending (r : DriveRec) :
    ((r.awaitsIdle s).testedForIdle s).pendingRelease ≠ .none := by
  unfold testedForIdle
  split <;> nofun

theorem DriveRec.testedForIdle_cause (r : DriveRec) : (r.testedForIdle s).cause = r.cause := by
  unfold testedForIdle
  split <;> rfl

theorem DriveRec.testedForIdle_releaseCut (r : DriveRec) : (r.testedForIdle s).releaseCut = r.releaseCut := by
  unfold testedForIdle
  split <;> rfl

/-- A drive whose release begins waits on for idle or the slot, or is RELEASING in the same event; a faulted AUX has its
clutch off (R76, R77). -/
theorem slotOffered_releaseBegun (st : Status) (state : (w.drive d).state ≠ .preparing) {u : Deu}
    (hu : u = deuOutputs (slotOffered s { beginRelease s d w with status := st }).deu) :
    ((u.drives.get d).releaseCut = true ∧
      ((u.drives.get d).state = (w.drive d).state ∧ (u.drives.get d).cause = some .releasePending ∧
          (u.drives.get d).pendingRelease ≠ .none ∧ d ∈ u.waiting ∨
        (u.drives.get d).state = .releasing ∧ s.atIdle = true ∧ u.holder = some d)) ∧
    ((w.drive d).state = .faulted → w.deu.do2 = false → d = .aux → u.do2 = false) := by
  subst hu
  have begun : ({ beginRelease s d w with status := st } : DeuWork).drive d = (w.drive d).awaitsIdle s :=
    beginRelease_drive ..
  obtain spared | ⟨v, spared, -, -, pending, releases⟩ :=
    slotOffered_pending s (w := { beginRelease s d w with status := st }) (d := d) (by rw [begun]; exact state)
  case inl =>
    have stands := spared.stands
    have record := stands.drive
    rw [idleTested_drive, begun] at record
    have waits := stands.waits.2 (by rw [idleTested_waiting]; exact (mem_beginRelease_waiting ..).2 (.inr rfl))
    rw [record]
    refine ⟨⟨DriveRec.testedForIdle_releaseCut _, .inl ⟨DriveRec.testedForIdle_state .., DriveRec.testedForIdle_cause _,
      DriveRec.awaitsIdle_tested_pending _, waits⟩⟩, fun faulted off hd => ?_⟩
    have tested : (((w.drive d).awaitsIdle s).testedForIdle s).state = .faulted :=
      (DriveRec.testedForIdle_state ..).trans faulted
    have clutch : ({ beginRelease s d w with status := st } : DeuWork).deu.do2 = false :=
      (beginRelease_do2 ..).trans off
    rw [stands.aux hd, idleTested_drive, begun, tested, idleTested_do2, clutch]
    rfl
  case inr =>
    rw [begun] at pending
    have stands := (Spares.refl d (enterReleasing s d v)).stands
    have record := stands.drive
    rw [enterReleasing_drive, spared.drive, idleTested_drive, begun] at record
    rw [releases, record]
    refine ⟨⟨DriveRec.testedForIdle_releaseCut _, .inr ⟨rfl, DriveRec.awaitsIdle_tested pending, rfl⟩⟩, fun _ _ hd => ?_⟩
    rw [stands.aux hd, enterReleasing_drive]
    rfl

end

/-- Settles O35: by the state of the drive, in the order of the table of R76. -/
theorem releaseDriveCompletes : Obligations.ReleaseDriveCompletes := by
  intro dt tag b s hfree
  refine ⟨exec_releaseDrive_above hfree dt tag, ?_⟩
  intro d hb h w r answers pends releasing
  let s' := s.inService (s.now + dt) 0x11#8 tag
  let u := s'.deuRequest (bodyRelease s' d)
  have adopts : adopt s' s'.deuWork = w := adopt_congr rfl rfl rfl
  have answered {v : DeuWork} {status : List Byte} (body : bodyRelease s' d w = v) (reply : v.status.bytes = status) :
      answers status u :=
    ⟨exec_releaseDrive hfree dt tag hb, State.deuRequest_serves s _ _ _ body reply⟩
  have unit {v : DeuWork} (body : bodyRelease s' d w = v) : u.deu = deuOutputs (slotOffered s' v).deu :=
    State.deuRequest_deu s' (by rw [adopts, body])
  have lent := DeuBody.lent (s := s') (.release d) h
  rw [adopts] at lent
  have stands {v : DeuWork} (body : bodyRelease s' d w = v) (waiting : d ∉ v.deu.waiting) : Stands d v u.deu := by
    rw [unit body]
    exact (slotOffered_spares s' (body ▸ lent) waiting).stands
  have holding (body : bodyRelease s' d w = { releaseHolding s' d w with status := .accepted }) :
      ∃ u, answers [1#8] u ∧ releasing u :=
    ⟨u, answered body rfl, (stands body fun hd => ((mem_enterReleasing_waiting ..).1 hd).2 rfl).releasing⟩
  split
  case isTrue unadopted => exact ⟨u, answered (bodyRelease_unadopted unadopted) rfl⟩
  case isFalse unadopted =>
  have adopted : w.deu.adopted = true := by simpa using unadopted
  have turning (ht : (w.drive d).state.turning = true) :
      if r.pendingRelease ≠ .none then ∃ u, answers [2#8, 1#8] u else ∃ u, answers [1#8] u ∧ pends u := by
    split
    case isTrue pending => exact ⟨u, answered (bodyRelease_refused adopted (.inr (.inr ⟨.inl ht, pending⟩))) rfl⟩
    case isFalse pending =>
      have body := bodyRelease_turning (s := s') adopted ht (not_not.1 pending)
      exact ⟨u, answered body rfl, (slotOffered_releaseBegun .accepted (by rintro e; rw [e] at ht; cases ht) (unit body)).1⟩
  split
  case h_1 state => exact ⟨u, answered (bodyRelease_refused adopted (.inl state)) rfl⟩
  case h_2 state => exact ⟨u, answered (bodyRelease_refused adopted (.inr (.inl state))) rfl⟩
  case h_3 state =>
    have body := bodyRelease_preparing (s := s') adopted state
    have stands := stands body fun hd => ((mem_enterIdle_waiting ..).1 hd).2 rfl
    have drive : u.deu.drives.get d = (w.drive d).idled .cancelled := stands.drive.trans (enterIdle_drive ..)
    refine ⟨u, answered body rfl, ?_⟩
    rw [drive]
    exact ⟨rfl, rfl, rfl, fun hd => ((mem_enterIdle_waiting ..).1 (stands.waits.1 hd)).2 rfl⟩
  case h_4 state => exact holding (bodyRelease_holding adopted (.inl state))
  case h_5 state | h_6 state => exact turning (congrArg DriveState.turning state)
  case h_7 state =>
  split
  case isTrue pending => exact ⟨u, answered (bodyRelease_refused adopted (.inr (.inr ⟨.inr state, pending⟩))) rfl⟩
  case isFalse pending =>
  replace pending := not_not.1 pending
  split
  case isTrue phase => exact holding (bodyRelease_holding adopted (.inr ⟨state, pending, phase⟩))
  case isFalse phase =>
  split
  case isTrue road =>
    have body := bodyRelease_faulted_at_road (s := s') adopted state pending phase road
    have stands := stands body fun hd => ((mem_enterReleased_waiting ..).1 hd).2 rfl
    have drive : u.deu.drives.get d = { (w.drive d).idled .released with releaseCut := false } :=
      stands.drive.trans (enterReleased_drive ..)
    refine ⟨u, answered body rfl, ?_⟩
    rw [drive]
    exact ⟨rfl, rfl, rfl, rfl⟩
  case isFalse road =>
    have body := bodyRelease_faulted_off_road (s := s') adopted state pending phase road
    have kept : (if d = .aux then clutch false w else w).drive d = w.drive d := releasesClutch_drive ..
    obtain ⟨pends, off⟩ := slotOffered_releaseBegun .accepted (by rw [kept]; exact fun e => by cases state.symm.trans e)
      (unit body)
    rw [kept] at pends off
    exact ⟨u, answered body rfl, pends, fun hd => off state (by rw [if_pos hd]; rfl) hd⟩

end Sys2Proof.Machine

end


section
/-! PROOFS. Adoption, and what the drives make of a publication of the inputs. -/

namespace Sys2Proof.Machine

open Sys2Proof.Safety

/-! ## Adoption by the positions (R89) -/

section
variable {s : State} (w : DeuWork) (due : adoptionDue s = true)
include due

theorem adopt_main : (adopt s w).drive .main = (adoptMain s w).drive .main := by
  rw [adopt_of_due due]
  exact ((adoptAux_actsOn s (adoptMain s w)).spares .main nofun).drive

theorem adopt_aux : (adopt s w).drive .aux = (adoptAux s (adoptMain s w)).drive .aux := by
  rw [adopt_of_due due]
  rfl

theorem adopt_main_pump (split : s.isu.pub.split = .pump) : (adopt s w).drive .main =
    { w.drive .main with state := .engaged, cause := some .adopted, motionArmed := false } := by
  rw [adopt_main w due, adoptMain, split]
  exact DeuWork.setRec_drive ..

theorem adopt_main_road (split : s.isu.pub.split = .road) : (adopt s w).drive .main =
    { w.drive .main with state := .disengaged, cause := some .adopted } := by
  rw [adopt_main w due, adoptMain, split]
  exact DeuWork.setRec_drive ..

theorem adopt_main_unknown (split : s.isu.pub.split = .between ∨ s.isu.pub.split = .conflict) :
    (adopt s w).drive .main = (w.drive .main).faulted s .main .positionUnknown false := by
  obtain split | split := split
  all_goals
    rw [adopt_main w due, adoptMain, split]
    exact enterFaulted_drive ..

theorem adopt_aux_unpowered (feedback : s.level .auxPtoFeedback = true) :
    (adopt s w).drive .aux = ((adoptMain s w).drive .aux).faulted s .aux .adoptedUnpowered false := by
  rw [adopt_aux w due, adoptAux, if_pos feedback]
  exact enterFaulted_drive ..

theorem adopt_aux_off (feedback : s.level .auxPtoFeedback = false) : (adopt s w).drive .aux =
    { (adoptMain s w).drive .aux with state := .disengaged, cause := some .adopted } := by
  rw [adopt_aux w due, adoptAux, if_neg (by simp [feedback])]
  exact DeuWork.setRec_drive ..

end

/-! ## One drive in a publication

MAIN takes the publication before AUX. A drive's part leaves the other drive alone, but for a FAULTED AUX in phase
RESTORE: the end of a road restore is MAIN's. -/

section
variable (s : State) {d : Drive} (w : DeuWork)

theorem driveInputs_acts (d : Drive) : ActsOn d w (driveInputs s d w) ∨
    (w.drive d).state = .faulted ∧ (w.drive d).phase = .restore ∧ driveInputs s d w = endRestore w := by
  cases state : (w.drive d).state with
  | disengaged => rw [driveInputs_waiting (.inl state)]; exact .inl (.refl d w)
  | preparing => rw [driveInputs_waiting (.inr state)]; exact .inl (.refl d w)
  | shifting =>
    rw [driveInputs_shifting state]
    split
    · exact .inl (confirmShift_actsOn s d w)
    · exact .inl (.refl d w)
  | releasing =>
    rw [driveInputs_releasing state]
    split
    · exact .inl (enterReleased_actsOn d w)
    · exact .inl (.refl d w)
  | engaged | rolling =>
    rw [driveInputs_turning (by rw [state]; rfl)]
    exact .inl (monitors_actsOn s w d)
  | faulted =>
    rw [driveInputs_faulted state]
    split
    case isTrue restores => exact .inr ⟨rfl, restores.1, rfl⟩
    case isFalse => exact .inl (.refl d w)

theorem driveInputs_goesOn (d : Drive) : GoesOn w (driveInputs s d w) := by
  obtain acts | ⟨-, -, ends⟩ := driveInputs_acts s w d
  · exact acts.goesOn
  · rw [ends]
    exact (endRestore_actsOn w).goesOn

theorem driveInputs_main_actsOn : ActsOn .main w (driveInputs s .main w) := by
  obtain acts | ⟨-, -, ends⟩ := driveInputs_acts s w .main
  · exact acts
  · rw [ends]
    exact endRestore_actsOn w

/-- A drive takes the publication as it stood before, and stands at the end of the body as its own part leaves it. -/
theorem bodyInputs_around (alone : d = .main → holdsSlot (w.drive .aux) = false) : ∃ v, Spares d w v ∧
    Spares d (driveInputs s d v) (bodyInputs s w) ∧ GoesOn (driveInputs s d v) (bodyInputs s w) := by
  cases d with
  | aux =>
    exact ⟨driveInputs s .main w, (driveInputs_main_actsOn s w).spares .aux nofun, .refl .aux _, .refl _⟩
  | main =>
    refine ⟨w, .refl .main w, ?_, driveInputs_goesOn s _ .aux⟩
    have same := ((driveInputs_main_actsOn s w).spares .aux nofun).drive
    obtain acts | ⟨state, phase, -⟩ := driveInputs_acts s (driveInputs s .main w) .aux
    · exact acts.spares .main nofun
    · rw [same] at state phase
      simp [holdsSlot, state, phase] at alone

end

/-! ## The records, withdrawals and cuts of a confirmed shift and of a return (R74, R78, R79) -/

section
variable (s : State) (d : Drive) (w : DeuWork)

theorem confirmShift_records : .engage d (s.pulse .engine).speed (s.now - (w.drive d).accepted) ∈
    (confirmShift s d w).records := by
  simp [confirmShift, stopSeq]

theorem enterReleased_records (h : (w.drive d).state ≠ .faulted) : .release d false ∈ (enterReleased d w).records := by
  simp [enterReleased, h]

theorem enterReleased_alarms : .withdraw (.driveFault d) ∈ (enterReleased d w).alarms := by
  simp [enterReleased, dropReleaseDemands]

theorem enterReleased_cuts (h : (w.drive d).releaseCut = true) :
    .withdraw (.driveRelease d) ∈ (enterReleased d w).cuts := by
  have cut : ((freeSlot d (enterIdle d .released w)).drive d).releaseCut = true := by
    rw [freeSlot_drive, enterIdle_drive]
    exact h
  have withdrawn : .withdraw (.driveRelease d) ∈ (dropReleaseDemands d (freeSlot d (enterIdle d .released w))).cuts := by
    unfold dropReleaseDemands
    dsimp only
    rw [if_pos cut]
    exact List.mem_append_right _ (.head _)
  exact withdrawn

end

/-! ## How a drive stands after the publication -/

section
variable {s : State} {d : Drive} {w : DeuWork} {u : Deu}

theorem turningState_eq (s : State) (d : Drive) :
    turningState s d = if d = .aux ∧ s.isu.pub.roadStill = false then .rolling else .engaged := by
  cases d with
  | main => rfl
  | aux => cases still : s.isu.pub.roadStill <;> simp [turningState, still]

/-- A drive whose shift is confirmed (R74). -/
theorem Stands.confirmed (h : Stands d (confirmShift s d w) u) :
    u.drives.get d = (w.drive d).confirmed s d ∧ u.holder ≠ some d ∧
      (d = .main → u.do0 = false) ∧ (d = .aux → u.do2 = true) := by
  refine ⟨h.drive.trans (confirmShift_drive ..), fun holds => ?_, fun hd => ?_, fun hd => ?_⟩
  · exact ((confirmShift_holder ..).1 (h.holds.1 holds)).2 rfl
  · subst hd
    rw [(h.main rfl).1, confirmShift_drive]
    rfl
  · subst hd
    have turning : (turningState s .aux).turning = true := turningState_turning s .aux
    rw [h.aux rfl, confirmShift_drive]
    simp [DriveRec.confirmed, turning]

/-- A drive that has returned (R78, R79). -/
theorem Stands.released (h : Stands d (enterReleased d w) u) :
    u.drives.get d = { (w.drive d).idled .released with releaseCut := false } ∧ u.holder ≠ some d ∧
      (d = .main → u.do1 = false) ∧ (d = .aux → u.do2 = false) := by
  refine ⟨h.drive.trans (enterReleased_drive ..), fun holds => ?_, fun hd => ?_, fun hd => ?_⟩
  · exact ((enterReleased_holder ..).1 (h.holds.1 holds)).2 rfl
  · rw [(h.main hd).2, enterReleased_drive]
    rfl
  · rw [h.aux hd, enterReleased_drive]
    rfl

end

section
variable {s : State} (h : SlotLent s) {d : Drive}
include h

/-- While a drive holds the slot, AUX is in no road restore behind MAIN's back (R67). -/
theorem aux_not_holding (holding : holdsSlot (s.deu.drives.get d) = true) (hd : d = .main) :
    holdsSlot s.deu.drives.aux = false := by
  subst hd
  obtain ⟨lent, -⟩ := (slotLent_iff s).1 h
  by_contra other
  have main := (lent.underWay .main holding).1
  have aux := (lent.underWay .aux ((Bool.not_eq_false _).mp other)).1
  cases main.symm.trans aux

/-- A drive takes the publication as the event finds it, and stands as its own part leaves it. -/
theorem State.inputs_taken (adopted : s.deu.adopted = true) (alone : d = .main → holdsSlot s.deu.drives.aux = false) :
    ∃ v, Spares d s.deuWork v ∧
      (d ∉ (driveInputs s d v).deu.waiting → Stands d (driveInputs s d v) (s.deuTakes (bodyInputs s)).deu) ∧
      GoesOn (driveInputs s d v) (bodyInputs s (adopt s s.deuWork)) := by
  have lent := DeuBody.inputs.lent h
  rw [adopt_of_adopted adopted] at lent ⊢
  obtain ⟨v, before, after, goesOn⟩ := bodyInputs_around s s.deuWork alone
  refine ⟨v, before, fun waiting => ?_, goesOn⟩
  rw [State.deuTakes_deu, adopt_of_adopted adopted]
  exact (after.trans (slotOffered_spares s lent fun hd => waiting (after.waits.1 hd))).stands

end

/-! ## The monitors (R82 to R86) -/

/-- What faults an ENGAGED MAIN (R83). -/
def mainMoves (s : State) (r : DriveRec) : Prop :=
  (s.pulse .road).state ≠ .stopped ∨ r.motionArmed = true ∧ s.isu.pub.roadStill = false

section
variable {s : State} {w : DeuWork}

theorem driveInputs_main_moves (state : (w.drive .main).state = .engaged) (moves : mainMoves s (w.drive .main)) :
    driveInputs s .main w = enterFaulted s .main .motion false w := by
  have faults : motionMonitor s w = enterFaulted s .main .motion false w :=
    if_pos (by simpa [mainMoves] using moves)
  rw [driveInputs_turning (by rw [state]; rfl)]
  unfold monitors
  dsimp only
  rw [faults]
  exact if_neg (by rw [enterFaulted_drive]; nofun)

theorem motionArmed_drive (still : Bool) :
    (if still then w.setRec .main { w.drive .main with motionArmed := true } else w).drive .main =
      { w.drive .main with motionArmed := (w.drive .main).motionArmed || still } := by
  cases still <;> simp

/-- An ENGAGED MAIN that stays is armed once the vehicle is still; the monitors write nothing else but timers. -/
theorem driveInputs_main_stays (state : (w.drive .main).state = .engaged) (stays : ¬ mainMoves s (w.drive .main)) :
    driveInputs s .main w = commonMonitors s .main
      (if s.isu.pub.roadStill then w.setRec .main { w.drive .main with motionArmed := true } else w) := by
  have passes : motionMonitor s w =
      if s.isu.pub.roadStill then w.setRec .main { w.drive .main with motionArmed := true } else w :=
    if_neg (by simpa [mainMoves] using stays)
  rw [driveInputs_turning (by rw [state]; rfl)]
  unfold monitors
  dsimp only
  rw [passes]
  exact if_pos (by rw [motionArmed_drive]; exact state)

/-- The fields of a record that the monitors of both drives leave. -/
structure DriveRec.Monitored (r r' : DriveRec) : Prop where
  state : r'.state = r.state
  cause : r'.cause = r.cause
  fault : r'.fault = r.fault
  motionArmed : r'.motionArmed = r.motionArmed

theorem DriveRec.Monitored.of_setRec {w' : DeuWork} {d : Drive} {r r' : DriveRec}
    (hdeu : w'.deu = (w.setRec d r').deu) (h : r.Monitored r') : r.Monitored (w'.drive d) := by
  have drive : w'.drive d = r' := by rw [DeuWork.drive, hdeu, ← DeuWork.drive, DeuWork.setRec_drive]
  rwa [drive]

theorem commonMonitors_drive (s : State) (d : Drive) (w : DeuWork) : (commonMonitors s d w).drive d =
    stallMonitor s d (slipMonitor s d (positionMonitor s d (w.drive d))) := DeuWork.setRec_drive ..

theorem commonMonitors_monitored (s : State) (d : Drive) (w : DeuWork) :
    (w.drive d).Monitored ((commonMonitors s d w).drive d) := by
  rw [commonMonitors_drive]
  exact ⟨rfl, rfl, rfl, rfl⟩

/-- AUX moves between ENGAGED and ROLLING with the vehicle (R65). -/
theorem moveRolling_state (turning : (w.drive .aux).state.turning = true) :
    ((moveRolling s w).drive .aux).state = if s.isu.pub.roadStill then .engaged else .rolling := by
  cases still : s.isu.pub.roadStill <;> cases state : (w.drive .aux).state <;>
    simp [moveRolling, still, state, DriveState.turning] at turning ⊢

theorem moveRolling_cause (turning : (w.drive .aux).state.turning = true) :
    ((moveRolling s w).drive .aux).cause =
      if ((moveRolling s w).drive .aux).state = (w.drive .aux).state then (w.drive .aux).cause
      else if s.isu.pub.roadStill then some .vehicleStill else some .vehicleMoving := by
  cases still : s.isu.pub.roadStill <;> cases state : (w.drive .aux).state <;>
    simp [moveRolling, still, state, DriveState.turning] at turning ⊢

theorem moveRolling_leaves (state : (w.drive .aux).state = .rolling) (still : s.isu.pub.roadStill = true) :
    moveRolling s w = (dropRollDemands .aux w).setRec .aux
      { (w.drive .aux).rollDropped with state := .engaged, cause := some .vehicleStill } := by
  simp only [moveRolling, state, still, dropRollDemands_drive]

theorem overspeedMonitor_monitored (s : State) (w : DeuWork) :
    (w.drive .aux).Monitored ((overspeedMonitor s w).drive .aux) := by
  unfold overspeedMonitor
  dsimp only
  split
  · exact ⟨rfl, rfl, rfl, rfl⟩
  split
  · split
    · exact .of_setRec (w := w) rfl ⟨rfl, rfl, rfl, rfl⟩
    · exact ⟨rfl, rfl, rfl, rfl⟩
  · split <;> exact .of_setRec (w := w) rfl ⟨rfl, rfl, rfl, rfl⟩

theorem selectMonitor_monitored (s : State) (w : DeuWork) :
    (w.drive .aux).Monitored ((selectMonitor s w).drive .aux) := by
  unfold selectMonitor
  dsimp only
  split
  · split
    · exact .of_setRec (w := w) rfl ⟨rfl, rfl, rfl, rfl⟩
    · exact ⟨rfl, rfl, rfl, rfl⟩
  split
  · exact ⟨rfl, rfl, rfl, rfl⟩
  · exact .of_setRec (w := w) rfl ⟨rfl, rfl, rfl, rfl⟩

theorem DriveRec.Monitored.trans {a b c : DriveRec} (h : a.Monitored b) (k : b.Monitored c) : a.Monitored c where
  state := k.state.trans h.state
  cause := k.cause.trans h.cause
  fault := k.fault.trans h.fault
  motionArmed := k.motionArmed.trans h.motionArmed

/-- Behind its move, an AUX is monitored. -/
theorem monitors_aux_monitored (s : State) (w : DeuWork) :
    ((moveRolling s w).drive .aux).Monitored ((monitors s .aux w).drive .aux) := by
  unfold monitors
  dsimp only
  split
  · exact ((overspeedMonitor_monitored s _).trans (selectMonitor_monitored s _)).trans (commonMonitors_monitored s .aux _)
  · exact commonMonitors_monitored s .aux _

theorem monitors_aux_waiting : (monitors s .aux w).deu.waiting = w.deu.waiting := by
  have moved : (moveRolling s w).deu.waiting = w.deu.waiting := by
    unfold moveRolling
    dsimp only
    split <;> simp
  have overspeed (v : DeuWork) : (overspeedMonitor s v).deu.waiting = v.deu.waiting := by
    unfold overspeedMonitor
    dsimp only
    split
    · rfl
    split <;> split <;> rfl
  have select (v : DeuWork) : (selectMonitor s v).deu.waiting = v.deu.waiting := by
    unfold selectMonitor
    dsimp only
    split <;> split <;> rfl
  have common (v : DeuWork) : (commonMonitors s .aux v).deu.waiting = v.deu.waiting := rfl
  unfold monitors
  dsimp only
  rw [common]
  split
  · rw [select, overspeed, moved]
  · exact moved

/-- An AUX that leaves ROLLING is past the rolling monitor (R84). -/
theorem monitors_aux_leaves (state : (w.drive .aux).state = .rolling) (still : s.isu.pub.roadStill = true) :
    monitors s .aux w = commonMonitors s .aux (moveRolling s w) := by
  have engaged := moveRolling_state (s := s) (w := w) (by rw [state]; rfl)
  rw [still] at engaged
  unfold monitors
  dsimp only
  rw [engaged]
  rfl

end

/-! ## MAIN behind its own part: AUX's part can end a road restore -/

theorem bodyInputs_main (s : State) (w : DeuWork) : ∃ r, (bodyInputs s w).drive .main = r ∧
    (r = (driveInputs s .main w).drive .main ∨ r = { stopSeq ((driveInputs s .main w).drive .main) with phase := .none }) ∧
    (.main ∈ (bodyInputs s w).deu.waiting ↔ .main ∈ (driveInputs s .main w).deu.waiting) ∧
    (.withdraw (.driveFault .main) ∈ (bodyInputs s w).alarms →
      .withdraw (.driveFault .main) ∈ (driveInputs s .main w).alarms) := by
  obtain acts | ⟨-, -, ends⟩ := driveInputs_acts s (driveInputs s .main w) .aux
  · have spared := acts.spares .main nofun
    exact ⟨_, spared.drive, .inl rfl, spared.waits, spared.causes _ rfl⟩
  · refine ⟨{ stopSeq ((driveInputs s .main w).drive .main) with phase := .none }, ?_, .inr rfl, ?_, ?_⟩
    · rw [bodyInputs, ends]
      exact (freeSlot_drive ..).trans (DeuWork.setRec_drive ..)
    · rw [bodyInputs, ends, endRestore, freeSlot_waiting, DeuWork.setRec_waiting]
    · rw [bodyInputs, ends, endRestore, freeSlot_alarms, DeuWork.setRec_alarms]
      exact id

section
variable {s : State} (h : SlotLent s)
include h

/-- MAIN at the end of the event, where it does not wait for the slot. -/
theorem State.inputs_main (adopted : s.deu.adopted = true) {v : DeuWork} (own : driveInputs s .main s.deuWork = v)
    (waiting : .main ∉ v.deu.waiting) : .main ∉ (s.deuTakes (bodyInputs s)).deu.waiting ∧
    ((s.deuTakes (bodyInputs s)).deu.drives.main = v.drive .main ∨
      (s.deuTakes (bodyInputs s)).deu.drives.main = { stopSeq (v.drive .main) with phase := .none }) ∧
    (.post (.driveFault .main) ∈ v.alarms → .withdraw (.driveFault .main) ∉ v.alarms →
      ∃ ops, (Block.ppu, Event.alarms ops) ∈ (s.deuTakes (bodyInputs s)).agenda ∧
        .post (.driveFault .main) ∈ ops) := by
  have work := adopt_of_adopted adopted s.deuWork
  have lent := DeuBody.inputs.lent h
  rw [work] at lent
  subst own
  obtain ⟨r, record, hr, waits, withdrawn⟩ := bodyInputs_main s s.deuWork
  have spared := slotOffered_spares s lent fun hd => waiting (waits.1 hd)
  have stands : Stands .main (bodyInputs s s.deuWork) (s.deuTakes (bodyInputs s)).deu := by
    rw [State.deuTakes_deu, work]
    exact spared.stands
  have drive : (s.deuTakes (bodyInputs s)).deu.drives.main = r := stands.drive.trans record
  refine ⟨fun hd => waiting (waits.1 (stands.waits.1 hd)), drive ▸ hr, fun post lasts => ?_⟩
  exact State.deuTakes_post (congrArg _ work) ((driveInputs_goesOn s _ .aux).alarms post) (d := .main) rfl
    (fun hw => lasts (withdrawn hw)) spared

end

/-! ## What a publication makes of a drive, by its state

The state in which the unit has taken the publication and its neighbours have yet to take what it hands over. -/

/-- A record is handed to the Duty Recorder (R92). -/
def HandsRecord (t : State) (r : RecordBody) : Prop :=
  ∃ bodies, (Block.drc, Event.records bodies) ∈ t.agenda ∧ r ∈ bodies

/-- A post or a withdrawal is handed to the Pump Protection Unit (R90). -/
def HandsAlarm (t : State) (op : SetOp AlarmCause) : Prop :=
  ∃ ops, (Block.ppu, Event.alarms ops) ∈ t.agenda ∧ op ∈ ops

/-- A post or a withdrawal is handed to the Throttle Authority Unit (R90). -/
def HandsCut (t : State) (op : SetOp Cut) : Prop :=
  ∃ cuts, (Block.tau, Event.cuts cuts) ∈ t.agenda ∧ op ∈ cuts

section
variable {s : State} (h : SlotLent s)
include h

section
variable {d : Drive}

/-- A drive that holds the slot takes the publication as the event finds it, and has adopted its state. -/
theorem State.inputs_underWay (holding : holdsSlot (s.deu.drives.get d) = true) : ∃ v,
    v.drive d = s.deu.drives.get d ∧ v.deu.holder = some d ∧ d ∉ v.deu.waiting ∧
    (d ∉ (driveInputs s d v).deu.waiting → Stands d (driveInputs s d v) (s.deuTakes (bodyInputs s)).deu) ∧
    GoesOn (driveInputs s d v) (bodyInputs s (adopt s s.deuWork)) := by
  obtain ⟨lent, -⟩ := (slotLent_iff s).1 h
  have adopted : s.deu.adopted = true := slotLent_adopted h (d := d) fun hd => by simp [holdsSlot, hd] at holding
  obtain ⟨holder, -, waiting⟩ := lent.underWay d holding
  obtain ⟨v, before, after, goesOn⟩ := State.inputs_taken h adopted (aux_not_holding h holding)
  exact ⟨v, before.drive, before.holds.2 holder, fun hd => waiting (before.waits.1 hd), after, goesOn⟩

/-- The position a SHIFTING drive waits for confirms the shift (R74). -/
theorem State.inputs_confirms (state : (s.deu.drives.get d).state = .shifting) (pump : s.pumpPosition d = true) :
    (s.deuTakes (bodyInputs s)).deu.drives.get d = (s.deu.drives.get d).confirmed s d ∧
      (s.deuTakes (bodyInputs s)).deu.holder ≠ some d ∧
      (d = .main → (s.deuTakes (bodyInputs s)).deu.do0 = false) ∧
      (d = .aux → (s.deuTakes (bodyInputs s)).deu.do2 = true) ∧
      HandsRecord (s.deuTakes (bodyInputs s))
        (.engage d (s.pulse .engine).speed (s.now - (s.deu.drives.get d).accepted)) := by
  obtain ⟨v, drive, -, waiting, after, goesOn⟩ := State.inputs_underWay h (d := d) (by simp [holdsSlot, state])
  have own : driveInputs s d v = confirmShift s d v := (driveInputs_shifting (drive ▸ state)).trans (if_pos pump)
  rw [own] at after goesOn
  obtain ⟨confirmed, slot, do0, do2⟩ := (after (by rwa [confirmShift_waiting])).confirmed
  have record := State.deuTakes_record rfl (goesOn.records (confirmShift_records s d v))
  rw [drive] at confirmed record
  exact ⟨confirmed, slot, do0, do2, record⟩

/-- The position a RELEASING drive waits for ends the return (R78, R79). -/
theorem State.inputs_returns (state : (s.deu.drives.get d).state = .releasing) (road : s.roadPosition d = true) :
    (s.deuTakes (bodyInputs s)).deu.drives.get d =
        { (s.deu.drives.get d).idled .released with releaseCut := false } ∧
      (s.deuTakes (bodyInputs s)).deu.holder ≠ some d ∧
      (d = .main → (s.deuTakes (bodyInputs s)).deu.do1 = false) ∧
      (d = .aux → (s.deuTakes (bodyInputs s)).deu.do2 = false) ∧
      HandsRecord (s.deuTakes (bodyInputs s)) (.release d false) ∧
      HandsAlarm (s.deuTakes (bodyInputs s)) (.withdraw (.driveFault d)) ∧
      ((s.deu.drives.get d).releaseCut = true →
        HandsCut (s.deuTakes (bodyInputs s)) (.withdraw (.driveRelease d))) := by
  obtain ⟨v, drive, -, -, after, goesOn⟩ := State.inputs_underWay h (d := d) (by simp [holdsSlot, state])
  have returning : (v.drive d).state = .releasing := drive ▸ state
  have own : driveInputs s d v = enterReleased d v := (driveInputs_releasing returning).trans (if_pos road)
  rw [own] at after goesOn
  obtain ⟨released, slot, do1, do2⟩ := (after fun hd => ((mem_enterReleased_waiting ..).1 hd).2 rfl).released
  have record := enterReleased_records d v (by simp [returning])
  rw [drive] at released
  exact ⟨released, slot, do1, do2, State.deuTakes_record rfl (goesOn.records record),
    State.deuTakes_withdrawal rfl (goesOn.alarms (enterReleased_alarms d v)),
    fun cut => State.deuTakes_cut rfl (goesOn.cuts (enterReleased_cuts d v (drive ▸ cut)))⟩

/-- Without that position the drive stands as it did, with the slot (R72, R73, R78, R79). -/
theorem State.inputs_waits (waits : (s.deu.drives.get d).state = .shifting ∧ s.pumpPosition d = false ∨
      (s.deu.drives.get d).state = .releasing ∧ s.roadPosition d = false) :
    (s.deuTakes (bodyInputs s)).deu.drives.get d = s.deu.drives.get d ∧
      (s.deuTakes (bodyInputs s)).deu.holder = some d := by
  obtain ⟨v, drive, holder, waiting, after, -⟩ := State.inputs_underWay h (d := d) (by
    obtain ⟨state, -⟩ | ⟨state, -⟩ := waits <;> simp [holdsSlot, state])
  have own : driveInputs s d v = v := by
    obtain ⟨state, position⟩ | ⟨state, position⟩ := waits
    · exact (driveInputs_shifting (drive ▸ state)).trans (if_neg (by simp [position]))
    · exact (driveInputs_releasing (drive ▸ state)).trans (if_neg (by simp [position]))
  rw [own] at after
  exact ⟨(after waiting).drive.trans drive, (after waiting).holds.2 holder⟩

end

/-! MAIN (R75, R83). -/

section
variable (state : s.deu.drives.main.state = .engaged)
include state

/-- An ENGAGED MAIN faults on motion (R83). -/
theorem State.inputs_motion (moves : mainMoves s s.deu.drives.main) :
    (s.deuTakes (bodyInputs s)).deu.drives.main = s.deu.drives.main.faulted s .main .motion false ∧
      .main ∉ (s.deuTakes (bodyInputs s)).deu.waiting ∧
      HandsAlarm (s.deuTakes (bodyInputs s)) (.post (.driveFault .main)) ∧
      HandsRecord (s.deuTakes (bodyInputs s)) (.driveFault .main .motion .engaged (s.positionCode .main)) := by
  have adopted : s.deu.adopted = true := slotLent_adopted h (d := .main) (by simp [PerDrive.get, state])
  have own : driveInputs s .main s.deuWork = enterFaulted s .main .motion false s.deuWork :=
    driveInputs_main_moves state moves
  have faulted : (enterFaulted s .main .motion false s.deuWork).drive .main =
      s.deu.drives.main.faulted s .main .motion false := enterFaulted_drive ..
  obtain ⟨waiting, drive, posted⟩ := State.inputs_main h adopted own (by simp)
  rw [faulted] at drive
  have before : (s.deuWork.drive .main).state = .engaged := state
  have record : .driveFault .main .motion .engaged (s.positionCode .main) ∈
      (driveInputs s .main (adopt s s.deuWork)).records := by
    rw [adopt_of_adopted adopted, own, enterFaulted_records, before]
    exact List.mem_append_right _ (.head _)
  exact ⟨drive.elim id id, waiting,
    posted (post_mem_enterFaulted ..) (by simp [withdraw_mem_enterFaulted, State.deuWork]),
    State.deuTakes_record rfl ((driveInputs_goesOn s _ .aux).records record)⟩

/-- An ENGAGED MAIN that does not move stays, armed once the vehicle is still (R83). -/
theorem State.inputs_stays (stays : ¬ mainMoves s s.deu.drives.main)
    (pending : s.deu.drives.main.pendingRelease = .none) :
    DriveRec.Monitored
      { s.deu.drives.main with motionArmed := s.deu.drives.main.motionArmed || s.isu.pub.roadStill }
      (s.deuTakes (bodyInputs s)).deu.drives.main := by
  obtain ⟨lent, -⟩ := (slotLent_iff s).1 h
  have adopted : s.deu.adopted = true := slotLent_adopted h (d := .main) (by simp [PerDrive.get, state])
  have waiting : .main ∉ s.deuWork.deu.waiting := (lent.drive .main).not_waiting
    (fun preparing => nomatch state.symm.trans preparing) pending
  have own := driveInputs_main_stays (s := s) (w := s.deuWork) state stays
  have armed := motionArmed_drive (w := s.deuWork) s.isu.pub.roadStill
  generalize hv : (if s.isu.pub.roadStill then
    s.deuWork.setRec .main { s.deuWork.drive .main with motionArmed := true } else s.deuWork) = v at own armed
  have kept : v.deu.waiting = s.deuWork.deu.waiting := by
    rw [← hv]
    split <;> rfl
  obtain ⟨-, drive, -⟩ := State.inputs_main h adopted own (by
    rw [commonMonitors, DeuWork.setRec_waiting, kept]
    exact waiting)
  have monitored := commonMonitors_monitored s .main v
  rw [armed] at monitored
  obtain drive | drive := drive
  · rw [drive]
    exact monitored
  · rw [drive]
    exact ⟨monitored.state, monitored.cause, monitored.fault, monitored.motionArmed⟩

end

/-- Split position ROAD ends MAIN's road restore (R75). -/
theorem State.inputs_restored (state : s.deu.drives.main.state = .faulted) (phase : s.deu.drives.main.phase = .restore)
    (road : s.isu.pub.split = .road) :
    (s.deuTakes (bodyInputs s)).deu.drives.main = { stopSeq s.deu.drives.main with phase := .none } ∧
      (s.deuTakes (bodyInputs s)).deu.holder ≠ some .main ∧ (s.deuTakes (bodyInputs s)).deu.do1 = false := by
  have holding : holdsSlot s.deu.drives.main = true := by simp [holdsSlot, state, phase]
  obtain ⟨v, drive, -, waiting, after, -⟩ := State.inputs_underWay h (d := .main) holding
  have faulted : (v.drive .main).state = .faulted := drive ▸ state
  have restoring : (v.drive .main).phase = .restore := drive ▸ phase
  have own : driveInputs s .main v = endRestore v :=
    (driveInputs_faulted faulted).trans (if_pos ⟨restoring, by simp [State.roadPosition, road]⟩)
  rw [own] at after
  have stands := after (by rwa [endRestore, freeSlot_waiting])
  have record : (endRestore v).drive .main = { stopSeq (v.drive .main) with phase := .none } :=
    (freeSlot_drive ..).trans (DeuWork.setRec_drive ..)
  obtain ⟨main, -⟩ := stands.outputs_faulted (by rw [record]; exact faulted) (by rw [record])
  rw [drive] at record
  exact ⟨stands.drive.trans record, fun holds => by simpa [endRestore] using stands.holds.1 holds, (main rfl).2⟩

/-! AUX (R65, R84). -/

section
variable (turning : s.deu.drives.aux.state.turning = true) (pending : s.deu.drives.aux.pendingRelease = .none)
include turning pending

/-- A turning AUX with no release pending stands at the end of the event as its monitors leave it. -/
theorem State.inputs_aux : ∃ v, v.drive .aux = s.deu.drives.aux ∧
    Stands .aux (monitors s .aux v) (s.deuTakes (bodyInputs s)).deu ∧
    GoesOn (monitors s .aux v) (bodyInputs s (adopt s s.deuWork)) := by
  obtain ⟨lent, -⟩ := (slotLent_iff s).1 h
  have adopted : s.deu.adopted = true := slotLent_adopted h (d := .aux) fun hd => by
    rw [PerDrive.get] at hd
    rw [hd] at turning
    cases turning
  have waiting : .aux ∉ s.deuWork.deu.waiting := (lent.drive .aux).not_waiting
    (fun preparing => by
      have state : s.deu.drives.aux.state = .preparing := preparing
      rw [state] at turning
      cases turning) pending
  obtain ⟨v, before, after, goesOn⟩ := State.inputs_taken h (d := .aux) adopted nofun
  have drive : v.drive .aux = s.deu.drives.aux := before.drive
  rw [driveInputs_turning (by rw [drive]; exact turning)] at after goesOn
  exact ⟨v, drive, after (by rw [monitors_aux_waiting, before.waits]; exact waiting), goesOn⟩

/-- It moves between ENGAGED and ROLLING with the vehicle (R65). -/
theorem State.inputs_rolls :
    (s.deuTakes (bodyInputs s)).deu.drives.aux.state = (if s.isu.pub.roadStill then .engaged else .rolling) ∧
      (s.deuTakes (bodyInputs s)).deu.drives.aux.cause =
        (if (s.deuTakes (bodyInputs s)).deu.drives.aux.state = s.deu.drives.aux.state then s.deu.drives.aux.cause
          else if s.isu.pub.roadStill then some .vehicleStill else some .vehicleMoving) ∧
      (s.deuTakes (bodyInputs s)).deu.do2 = true := by
  obtain ⟨v, drive, stands, -⟩ := State.inputs_aux h turning pending
  rw [← drive] at turning
  have record : (s.deuTakes (bodyInputs s)).deu.drives.aux = (monitors s .aux v).drive .aux := stands.drive
  have monitored := monitors_aux_monitored s v
  have state := monitored.state.trans (moveRolling_state turning)
  have cause := monitored.cause.trans (moveRolling_cause turning)
  rw [← monitored.state, drive] at cause
  refine ⟨record ▸ state, record ▸ cause, ?_⟩
  have turns : ((monitors s .aux v).drive .aux).state.turning = true := by
    rw [state]
    split <;> rfl
  rw [stands.aux rfl, turns]
  simp

/-- An AUX that leaves ROLLING stops its overspeed timer and takes its posts back (R84). -/
theorem State.inputs_leavesRolling (rolling : s.deu.drives.aux.state = .rolling) (still : s.isu.pub.roadStill = true) :
    (s.deuTakes (bodyInputs s)).deu.drives.aux.overspeed = .stopped ∧
      (s.deuTakes (bodyInputs s)).deu.drives.aux.overspeedPosted = false ∧
      (s.deu.drives.aux.overspeedPosted = true →
        HandsAlarm (s.deuTakes (bodyInputs s)) (.withdraw .rollOverspeed)) := by
  obtain ⟨v, drive, stands, goesOn⟩ := State.inputs_aux h turning pending
  rw [← drive] at rolling ⊢
  have leaves := monitors_aux_leaves rolling still
  rw [moveRolling_leaves rolling still] at leaves
  have record : (s.deuTakes (bodyInputs s)).deu.drives.aux = (monitors s .aux v).drive .aux := stands.drive
  rw [leaves, commonMonitors_drive, DeuWork.setRec_drive] at record
  rw [record]
  refine ⟨rfl, rfl, fun posted => State.deuTakes_withdrawal rfl (goesOn.alarms ?_)⟩
  have withdrawn : .withdraw .rollOverspeed ∈ (dropRollDemands .aux v).alarms := by
    rw [dropRollDemands_alarms]
    simp [rollWithdrawals, posted]
  rw [leaves]
  exact withdrawn

end

end

/-- Settles O37: adoption by the positions; then a drive by its state, each standing as its own part of the publication
leaves it. -/
theorem adoptionFollowsThePositions : Obligations.AdoptionFollowsThePositions := by
  refine ⟨?adoption, ?publication⟩
  case adoption =>
    intro s w unadopted loaded scanned w'
    have due : adoptionDue s = true := adoptionDue_iff.2 ⟨unadopted, loaded, scanned⟩
    refine ⟨congrArg (·.deu.adopted) (adopt_of_due due w), fun split => ?_, fun split => ?_, fun split => ?_,
      fun feedback => ?_, fun feedback => ?_⟩
    · rw [adopt_main_pump w due split]
      exact ⟨rfl, rfl, rfl⟩
    · rw [adopt_main_road w due split]
      exact ⟨rfl, rfl⟩
    · rw [adopt_main_unknown w due split]
      exact ⟨rfl, rfl⟩
    · rw [adopt_aux_unpowered w due feedback]
      exact ⟨rfl, rfl⟩
    · rw [adopt_aux_off w due feedback]
      exact ⟨rfl, rfl⟩
  case publication =>
  intro s h t still recorded alarmed
  refine ⟨?drives, ?main, ?aux⟩
  case drives =>
    intro d r r'
    refine ⟨fun state pump => ?_, fun state road => ?_, fun waits => State.inputs_waits h waits⟩
    · obtain ⟨confirmed, slot, do0, do2, record⟩ := State.inputs_confirms h state pump
      have reached : r' = r.confirmed s d := confirmed
      rw [reached]
      exact ⟨turningState_eq s d, rfl, rfl, rfl, fun _ => rfl, slot, do0, do2, record⟩
    · obtain ⟨released, slot, do1, do2, record, withdrawal, cut⟩ := State.inputs_returns h state road
      have reached : r' = { r.idled .released with releaseCut := false } := released
      rw [reached]
      exact ⟨rfl, rfl, rfl, rfl, rfl, rfl, slot, do1, do2, record, withdrawal, cut⟩
  case main =>
    intro m m' moves
    refine ⟨fun state moves => ?_, fun state stays pending => ?_, fun state phase road => ?_⟩
    · obtain ⟨faulted, waiting, posted, record⟩ := State.inputs_motion h state moves
      have reached : m' = m.faulted s .main .motion false := faulted
      rw [reached]
      exact ⟨rfl, rfl, rfl, rfl, rfl, rfl, rfl, rfl, rfl, waiting, posted, record⟩
    · have monitored := State.inputs_stays h state stays pending
      exact ⟨monitored.state.trans state, monitored.cause, monitored.fault, monitored.motionArmed⟩
    · obtain ⟨restored, slot, do1⟩ := State.inputs_restored h state phase road
      have reached : m' = { stopSeq m with phase := .none } := restored
      rw [reached]
      exact ⟨state, rfl, rfl, rfl, slot, do1⟩
  case aux =>
    intro a a' turning pending
    obtain ⟨state, cause, do2⟩ := State.inputs_rolls h turning pending
    exact ⟨state, cause, do2, State.inputs_leavesRolling h turning pending⟩

end Sys2Proof.Machine

end
